-- ==== Sys2Proof/Word.lean ====
section
/-! DEFINITION. The fixed-width words of the block (widths: 00_scope.md R10, 30_encoding.md R81, R87). -/

namespace Sys2Proof

/-- A byte: frame bytes, key bytes, immediates, slots and channel numbers (R10). -/
abbrev Byte := BitVec 8

/-- 16 bits: a command word (R81), a countdown, the guard (R10), a CRC (R150), a TickState argument or result (R87). -/
abbrev Half := BitVec 16

/-- 32 bits: a frequency in hertz (R10, R88), a status value (R97). -/
abbrev Word := BitVec 32

end Sys2Proof
end

