-- ==== Sys2Proof/Config.lean ====
section
/-! DEFINITION. The parameters the document leaves open (00_scope.md R7), the answers of the radio driver (30_encoding.md
R90), and the model's free values, each an opaque constant without a body. -/

namespace Sys2Proof

/-- The open parameters P1 to P10 of R7, "strap values, not writable state", "constant from reset onward". -/
structure Config where
  /-- Frame length in bytes; the payload is `N-2` bytes. -/
  N : Nat
  /-- `channel_count`: slots per hop sequence and number of channels. -/
  M : Nat
  /-- Eight rows of `M` channel numbers (R51). -/
  HOP_ROM : List (List Byte)
  /-- Time units between two ticks. -/
  TICK_UNITS : Nat
  /-- Ceiling of `inactivity_ticks`. -/
  BLANKING_TIMEOUT : Nat
  /-- Added to the selector to make the key byte. -/
  HOP_KEY_OFFSET : Nat
  /-- The 16-byte secret whose key byte is still to be filled. -/
  KEY_TEMPLATE : List Byte
  /-- Where the key byte goes. -/
  KEY_POS : Nat
  /-- Carrier of channel 0, in hertz. -/
  BASE_FREQUENCY : Nat
  /-- Hertz between adjacent channels. -/
  CHANNEL_SPACING : Nat
deriving DecidableEq, Repr, Inhabited

/-- What the radio driver answers to the requests of ONE transition (the draws of R15 and R90). No transition asks the
same request twice (45_controltask.md R217), so one answer of each kind is all a transition can consume. -/
structure Answers where
  /-- `Q.SET_FREQ`: success. -/
  freqOk : Bool
  /-- `Q.AVAIL`: a frame is waiting. -/
  avail : Bool
  /-- `Q.RECV`: the bytes received; their number is the length. -/
  recv : List Byte
deriving DecidableEq, Repr, Inhabited

/-- FREE VALUE (DESIGN CHOICE, log 4). The parameter set of the chip at hand: the document gives no value (R7). -/
opaque Config.chosen : Config

/-- FREE VALUE (DESIGN CHOICE, log 3). The radio's answers to the transition number `turn`, where the environment's input
does not carry them. -/
opaque Config.freeAnswers : Nat → Answers

/-- FREE VALUE (DESIGN CHOICE, log 5). Byte `i` of `rx_buf` after the reset taken at `turn`: "any N bytes, fixed at reset"
(10_state.md R34). -/
opaque Config.powerOnRx : Nat → Nat → Byte

/-- FREE VALUE (DESIGN CHOICE, log 5). Byte `i` of `tx_buf` after the reset taken at `turn` (10_state.md R36). -/
opaque Config.powerOnTx : Nat → Nat → Byte

/-- FREE VALUE (DESIGN CHOICE, log 15). What a read of the HopTable outside its index ranges would give; such a read
"cannot happen" (20_memory.md R50). -/
opaque Config.outsideRom : Nat → Nat → Byte

end Sys2Proof
end

