-- ==== Sys2Proof/Machine/Params.lean ====
section
/-! DEFINITION. The constants the document fixes (00_scope.md R6), the constants derived from the parameters (R8), and what
a legal parameter set is (R7, R9). -/

namespace Sys2Proof

/-- Hops per second (R6). -/
def HOP_RATE : Nat := 20
/-- The cap of `missed_hop_count` (R6). -/
def MISS_CAP : Nat := 20
/-- Hop sequences (R6). -/
def SEQ_COUNT : Nat := 8
/-- Selector bits that pick the sequence (R6). -/
def SEQ_MASK : Byte := 0x07
/-- Immediate bits that are the selector (R6). -/
def SEL_MASK : Byte := 0x0F
/-- The reversed polynomial (R6). -/
def CRC_POLY : Half := 0x8408
/-- The initial value of the checksum (R6). -/
def CRC_INIT : Half := 0
/-- Bytes of the checksum in a frame (R6). -/
def CRC_LEN : Nat := 2
/-- Bytes of the shared secret (R6). -/
def KEY_LEN : Nat := 16
/-- Time units per second (R6). -/
def TIME_BASE : Nat := 1000

namespace Config

/-- `HOP_PERIOD = floor(1000 / HOP_RATE)`, 50 time units (R8). -/
def hopPeriod : Nat := TIME_BASE / HOP_RATE

/-- `HOP_TICKS = floor(HOP_PERIOD / TICK_UNITS)` (R8). -/
def hopTicks (c : Config) : Nat := hopPeriod / c.TICK_UNITS

/-- `HIT_TICKS = floor(12 * HOP_TICKS / 10)` (R8). -/
def hitTicks (c : Config) : Nat := 12 * c.hopTicks / 10

/-- `HOP_TICKS` as a countdown holds it (R10). -/
def hopLoad (c : Config) : Half := BitVec.ofNat 16 c.hopTicks

/-- `HIT_TICKS` as a countdown holds it (R10). -/
def hitLoad (c : Config) : Half := BitVec.ofNat 16 c.hitTicks

/-- A row of the HopTable is a permutation of `[0, M)` (R51): `M` entries, all below `M`, no two equal. -/
abbrev RowPermutes (M : Nat) (row : List Byte) : Prop :=
  row.length = M ∧ (∀ ch ∈ row, ch.toNat < M) ∧ row.Nodup

/-- The ranges of R7 and the constraints of R9. -/
abbrev Legal (c : Config) : Prop :=
  (3 ≤ c.N ∧ c.N ≤ 255) ∧
  (1 ≤ c.M ∧ c.M ≤ 256) ∧
  (c.HOP_ROM.length = SEQ_COUNT ∧ ∀ row ∈ c.HOP_ROM, RowPermutes c.M row) ∧
  (c.TICK_UNITS = 1 ∨ c.TICK_UNITS = 2) ∧
  (1 ≤ c.BLANKING_TIMEOUT ∧ c.BLANKING_TIMEOUT ≤ 65535) ∧
  c.HOP_KEY_OFFSET ≤ 255 ∧
  c.KEY_TEMPLATE.length = KEY_LEN ∧
  c.KEY_POS ≤ 15 ∧
  c.BASE_FREQUENCY + (c.M - 1) * c.CHANNEL_SPACING < 2 ^ 32 ∧
  c.CHANNEL_SPACING < 2 ^ 32 ∧
  2 ≤ c.hopTicks ∧
  c.hitTicks < 2 ^ 16

/-- Some legal parameter set, here only so that `straps` is legal whatever `chosen` is; no statement names it. -/
def smallest : Config where
  N := 3
  M := 1
  HOP_ROM := List.replicate SEQ_COUNT [0]
  TICK_UNITS := 1
  BLANKING_TIMEOUT := 1
  HOP_KEY_OFFSET := 0
  KEY_TEMPLATE := List.replicate KEY_LEN 0
  KEY_POS := 0
  BASE_FREQUENCY := 0
  CHANNEL_SPACING := 0

/-- The parameter set of the chip at hand: free within what R7 and R9 allow (DESIGN CHOICE, log 4). -/
def straps : Config := if Legal chosen then chosen else smallest

/-- The unspecified contents of `rx_buf` after the reset taken at `turn` (10_state.md R34, R44; log 5). -/
def rxBufAtReset (c : Config) (turn : Nat) : List Byte := (List.range c.N).map (powerOnRx turn)

/-- The unspecified contents of `tx_buf` after the reset taken at `turn` (10_state.md R36, R44; log 5). -/
def txBufAtReset (c : Config) (turn : Nat) : List Byte := (List.range c.N).map (powerOnTx turn)

end Config

end Sys2Proof
end

