-- ==== Sys2Proof/Syntax.lean ====
section
/-! DEFINITION. The operations of the block, one constructor per row of spec/opcode_table.json, and the signals that stand
on its ports and event inputs (30_encoding.md R80). -/

namespace Sys2Proof

/-- One constructor per row of spec/opcode_table.json. -/
inductive Instr where
  -- format C, the command port (R83); the ignored immediate bits are kept so that no bit of a word is lost
  /-- `NOP`, R211. -/
  | nop (imm : Byte)
  /-- `START`, R213. -/
  | start (imm : Byte)
  /-- `CFG_ROLE`, R212. -/
  | cfgRole (imm : Byte)
  /-- `CFG_SEL`, R136. -/
  | cfgSel (imm : Byte)
  /-- `CLR_GUARD`, R194. -/
  | clrGuard (imm : Byte)
  /-- `SUBMIT`, R156; the payload is the operand presented with the word. -/
  | submit (imm : Byte) (payload : List Byte)
  /-- `TAKE`, R157. -/
  | take (imm : Byte)
  /-- `STEP`, R210. -/
  | step (imm : Byte)
  /-- `STATUS`, R214. -/
  | status (imm : Byte)
  /-- A reserved command word, opcode 0x09 to 0xFF, R215. -/
  | reserved (op imm : Byte)
  -- format T, the internal TickState port (R87)
  /-- `TS.PEEK f`, R112. -/
  | tsPeek (f : Half)
  /-- `TS.ARM_RX v`, R113. -/
  | tsArmRx (v : Half)
  /-- `TS.ARM_TX v`, R114. -/
  | tsArmTx (v : Half)
  /-- `TS.TAKE_RX`, R115. -/
  | tsTakeRx
  /-- `TS.TAKE_TX`, R116. -/
  | tsTakeTx
  /-- `TS.GUARD_CLR`, R117. -/
  | tsGuardClr
  /-- The codes 6 and 7, never issued, R87. -/
  | tsReserved (code : BitVec 3)
  -- format Q, the radio port (R88)
  /-- `Q.RESET`. -/
  | qReset
  /-- `Q.CONFIGURE`; the profile's form is not in the source (N32), so it is carried as bytes (log 12). -/
  | qConfigure (profile : List Byte)
  /-- `Q.SET_FREQ`. -/
  | qSetFreq (hz : Word)
  /-- `Q.SET_POWER`; the level's form is not in the source (N32), so it is carried as a number (log 12). -/
  | qSetPower (level : Nat) (highPower : Bool)
  /-- `Q.SET_KEY`, 16 bytes. -/
  | qSetKey (key : List Byte)
  /-- `Q.AVAIL`. -/
  | qAvail
  /-- `Q.RECV`. -/
  | qRecv
  /-- `Q.XMIT`; the length of R88 is the number of bytes. -/
  | qXmit (frame : List Byte)
  /-- `Q.WAIT_DONE`. -/
  | qWaitDone
  -- format E, the event inputs (R91, R92)
  /-- `TICK`, R110. -/
  | tick
  /-- `TX_DONE`, R193. -/
  | txDone
deriving DecidableEq, Repr

/-- The arguments that go with a radio request code (the table of R88). -/
inductive RadioArg where
  | none
  | profile (bytes : List Byte)
  | hz (hz : Word)
  | power (level : Nat) (highPower : Bool)
  | bytes (bytes : List Byte)
deriving DecidableEq, Repr

/-- What stands on one port, or pulses on one event input, for one transition (R80). -/
inductive Signal where
  /-- Format C: a 16-bit command word with the operand presented with it (R81, R85). -/
  | command (w : Half) (operand : List Byte)
  /-- Format T: a 3-bit code with a 16-bit argument (R87). -/
  | tickState (tsOp : BitVec 3) (tsArg : Half)
  /-- Format Q: a 4-bit request code with its arguments (R88). -/
  | radio (rq : BitVec 4) (arg : RadioArg)
  /-- Format E: the tick pulse (R91). -/
  | tick
  /-- Format E: the transmit-complete pulse (R92). -/
  | txDone
deriving DecidableEq, Repr

/-- What the environment can present to the block. -/
inductive Input where
  /-- A signal, with the radio's answers to the transition it causes; `none` leaves them free (log 3). -/
  | signal (sig : Signal) (answers : Option Answers)
  /-- The reset input, asserted and released (70_reset_and_hazards.md R260). -/
  | reset
deriving DecidableEq, Repr

end Sys2Proof
end

