-- ==== Sys2Proof/WellFormed.lean ====
section
/-! DEFINITION. Which instruction terms the formats of 30_encoding.md admit. -/

namespace Sys2Proof

/-- The operand ranges of the formats. A wrong `SUBMIT` length, an undefined `STATUS` select and a zero `TS.ARM_*` operand
are no matter of form: the spec gives each an effect (R156, R214, R119). Nor is the length of a `Q.XMIT` frame: it is
the parameter `N` (R88), which no format fixes. -/
def Instr.wellFormed : Instr → Bool
  | .nop _ => true
  | .start _ => true
  | .cfgRole _ => true
  | .cfgSel _ => true
  | .clrGuard _ => true
  | .submit _ _ => true
  | .take _ => true
  | .step _ => true
  | .status _ => true
  | .reserved op _ => decide (9 ≤ op.toNat)                                  -- R83: opcodes 0x09 to 0xFF
  | .tsPeek f => decide (f.toNat < 5)                                        -- R112: field number 0 to 4
  | .tsArmRx _ => true
  | .tsArmTx _ => true
  | .tsTakeRx => true
  | .tsTakeTx => true
  | .tsGuardClr => true
  | .tsReserved code => decide (6 ≤ code.toNat)                              -- R87: codes 6 and 7
  | .qReset => true
  | .qConfigure _ => true
  | .qSetFreq _ => true
  | .qSetPower _ _ => true
  | .qSetKey key => decide (key.length = 16)                                 -- R88: 16 bytes
  | .qAvail => true
  | .qRecv => true
  | .qXmit _ => true
  | .qWaitDone => true
  | .tick => true
  | .txDone => true

end Sys2Proof
end

