-- ==== Sys2Proof/Decode.lean ====
section
/-! DEFINITION. The decoder from the signals on the block's ports to instructions (30_encoding.md, formats C, T, Q, E), the
encoder back, and the reading of the opcode table's numbers as signals. -/

namespace Sys2Proof

/-- Why a signal stands for no instruction. -/
inductive DecodeError where
  /-- Request codes 9 to 15 "are unused" (R88). -/
  | unusedRequestCode (rq : BitVec 4)
  /-- The arguments are not those the table of R88 gives the request code. -/
  | requestArguments (rq : BitVec 4)
  /-- `TS.PEEK f` with `f` in 5 to 65535 "is never issued" (R112). -/
  | peekFieldNeverIssued (f : Half)
deriving DecidableEq, Repr

/-- `op = w[15:8]` (R81). -/
def opOf (w : Half) : Byte := w.extractLsb' 8 8

/-- `imm = w[7:0]` (R81). -/
def immOf (w : Half) : Byte := w.extractLsb' 0 8

/-- Format C: every command word has a meaning, the reserved ones too (R83, R86). An operand presented with a word that
takes none is not looked at (log 14). -/
def decodeCommand (w : Half) (operand : List Byte) : Instr :=
  match (opOf w).toNat with
  | 0x00 => .nop (immOf w)
  | 0x01 => .start (immOf w)
  | 0x02 => .cfgRole (immOf w)
  | 0x03 => .cfgSel (immOf w)
  | 0x04 => .clrGuard (immOf w)
  | 0x05 => .submit (immOf w) operand
  | 0x06 => .take (immOf w)
  | 0x07 => .step (immOf w)
  | 0x08 => .status (immOf w)
  | _ => .reserved (opOf w) (immOf w)

/-- Format T (R87). -/
def decodeTickState (tsOp : BitVec 3) (tsArg : Half) : Except DecodeError Instr :=
  match tsOp.toNat with
  | 0 => if tsArg.toNat < 5 then .ok (.tsPeek tsArg) else .error (.peekFieldNeverIssued tsArg)
  | 1 => .ok (.tsArmRx tsArg)
  | 2 => .ok (.tsArmTx tsArg)
  | 3 => .ok .tsTakeRx
  | 4 => .ok .tsTakeTx
  | 5 => .ok .tsGuardClr
  | _ => .ok (.tsReserved tsOp)

/-- A request code whose request takes no argument (R88). -/
def noArgument (rq : BitVec 4) (i : Instr) : RadioArg → Except DecodeError Instr
  | .none => .ok i
  | .profile _ | .hz _ | .power _ _ | .bytes _ => .error (.requestArguments rq)

/-- A request code whose argument is a modulation profile (R88). -/
def profileArgument (rq : BitVec 4) (i : List Byte → Instr) : RadioArg → Except DecodeError Instr
  | .profile bytes => .ok (i bytes)
  | .none | .hz _ | .power _ _ | .bytes _ => .error (.requestArguments rq)

/-- A request code whose argument is a frequency (R88). -/
def hzArgument (rq : BitVec 4) (i : Word → Instr) : RadioArg → Except DecodeError Instr
  | .hz hz => .ok (i hz)
  | .none | .profile _ | .power _ _ | .bytes _ => .error (.requestArguments rq)

/-- A request code whose arguments are a power level and a flag (R88). -/
def powerArgument (rq : BitVec 4) (i : Nat → Bool → Instr) : RadioArg → Except DecodeError Instr
  | .power level highPower => .ok (i level highPower)
  | .none | .profile _ | .hz _ | .bytes _ => .error (.requestArguments rq)

/-- A request code whose argument is a byte sequence of the form the instruction asks for (R88). -/
def bytesArgument (rq : BitVec 4) (i : List Byte → Instr) : RadioArg → Except DecodeError Instr
  | .bytes bytes => if (i bytes).wellFormed then .ok (i bytes) else .error (.requestArguments rq)
  | .none | .profile _ | .hz _ | .power _ _ => .error (.requestArguments rq)

/-- Format Q (R88). -/
def decodeRadio (rq : BitVec 4) (arg : RadioArg) : Except DecodeError Instr :=
  match rq.toNat with
  | 0 => noArgument rq .qReset arg
  | 1 => profileArgument rq .qConfigure arg
  | 2 => hzArgument rq .qSetFreq arg
  | 3 => powerArgument rq .qSetPower arg
  | 4 => bytesArgument rq .qSetKey arg
  | 5 => noArgument rq .qAvail arg
  | 6 => noArgument rq .qRecv arg
  | 7 => bytesArgument rq .qXmit arg
  | 8 => noArgument rq .qWaitDone arg
  | _ => .error (.unusedRequestCode rq)

/-- The instruction a signal stands for. -/
def decode : Signal → Except DecodeError Instr
  | .command w operand => .ok (decodeCommand w operand)
  | .tickState tsOp tsArg => decodeTickState tsOp tsArg
  | .radio rq arg => decodeRadio rq arg
  | .tick => .ok .tick
  | .txDone => .ok .txDone

/-- The command word `op << 8 | imm` (R81). -/
def commandWord (op imm : Byte) : Half := op ++ imm

/-- The signal of an instruction, from the tables of R83, R87 and R88. -/
def encode : Instr → Signal
  | .nop imm => .command (commandWord 0x00 imm) []
  | .start imm => .command (commandWord 0x01 imm) []
  | .cfgRole imm => .command (commandWord 0x02 imm) []
  | .cfgSel imm => .command (commandWord 0x03 imm) []
  | .clrGuard imm => .command (commandWord 0x04 imm) []
  | .submit imm payload => .command (commandWord 0x05 imm) payload
  | .take imm => .command (commandWord 0x06 imm) []
  | .step imm => .command (commandWord 0x07 imm) []
  | .status imm => .command (commandWord 0x08 imm) []
  | .reserved op imm => .command (commandWord op imm) []
  | .tsPeek f => .tickState 0 f
  | .tsArmRx v => .tickState 1 v
  | .tsArmTx v => .tickState 2 v
  | .tsTakeRx => .tickState 3 0
  | .tsTakeTx => .tickState 4 0
  | .tsGuardClr => .tickState 5 0
  | .tsReserved code => .tickState code 0
  | .qReset => .radio 0 .none
  | .qConfigure profile => .radio 1 (.profile profile)
  | .qSetFreq hz => .radio 2 (.hz hz)
  | .qSetPower level highPower => .radio 3 (.power level highPower)
  | .qSetKey key => .radio 4 (.bytes key)
  | .qAvail => .radio 5 .none
  | .qRecv => .radio 6 .none
  | .qXmit frame => .radio 7 (.bytes frame)
  | .qWaitDone => .radio 8 .none
  | .tick => .tick
  | .txDone => .txDone

/-- The row of spec/opcode_table.json an instruction belongs to, which is also its name in a trace (R18, R100). -/
def Instr.mnemonic : Instr → String
  | .nop _ => "NOP"
  | .start _ => "START"
  | .cfgRole _ => "CFG_ROLE"
  | .cfgSel _ => "CFG_SEL"
  | .clrGuard _ => "CLR_GUARD"
  | .submit _ _ => "SUBMIT"
  | .take _ => "TAKE"
  | .step _ => "STEP"
  | .status _ => "STATUS"
  | .reserved _ _ => "RESERVED"
  | .tsPeek _ => "TS.PEEK"
  | .tsArmRx _ => "TS.ARM_RX"
  | .tsArmTx _ => "TS.ARM_TX"
  | .tsTakeRx => "TS.TAKE_RX"
  | .tsTakeTx => "TS.TAKE_TX"
  | .tsGuardClr => "TS.GUARD_CLR"
  | .tsReserved _ => "TS.RESERVED"
  | .qReset => "Q.RESET"
  | .qConfigure _ => "Q.CONFIGURE"
  | .qSetFreq _ => "Q.SET_FREQ"
  | .qSetPower _ _ => "Q.SET_POWER"
  | .qSetKey _ => "Q.SET_KEY"
  | .qAvail => "Q.AVAIL"
  | .qRecv => "Q.RECV"
  | .qXmit _ => "Q.XMIT"
  | .qWaitDone => "Q.WAIT_DONE"
  | .tick => "TICK"
  | .txDone => "TX_DONE"

/-- The arguments of a radio request with every bit 0: as many bytes as the request takes. -/
def zeroArg (c : Config) (rq : Nat) : RadioArg :=
  match rq with
  | 1 => .profile []
  | 2 => .hz 0
  | 3 => .power 0 false
  | 4 => .bytes (List.replicate KEY_LEN 0)
  | 7 => .bytes (List.replicate c.N 0)
  | _ => .none

/-- A word of spec/opcode_table.json as a signal, its operand all zeros. The table numbers the codes of each port from 0
and does not say the port, so the width must: more than 8 bits is a command word, 0 bits the tick pulse, 3 bits a
TickState code, 4 bits a request code. A TickState code and a request code in whole bytes are both 8 bits wide: 0 to 5 is
then read as the TickState code and 6 to 15 as the request code (DESIGN CHOICE, log 13). -/
def tableSignal (c : Config) (nbits w : Nat) : Option Signal :=
  if 8 < nbits then some (.command (BitVec.ofNat 16 w) (List.replicate (c.N - CRC_LEN) 0))
  else if nbits = 0 then some .tick
  else if nbits ≤ 3 then some (.tickState (BitVec.ofNat 3 w) 0)
  else if nbits = 4 then some (.radio (BitVec.ofNat 4 w) (zeroArg c w))
  else if w < 6 then some (.tickState (BitVec.ofNat 3 w) 0)
  else if w < 16 then some (.radio (BitVec.ofNat 4 w) (zeroArg c w))
  else none

/-- What the decoder reads from a word of spec/opcode_table.json. -/
def decodeTableWord (nbits w : Nat) : Option Instr :=
  match tableSignal Config.straps nbits w with
  | none => none
  | some sig =>
    match decode sig with
    | .ok i => some i
    | .error _ => none

end Sys2Proof
end

