-- ==== Sys2Proof/Machine/Functions.lean ====
section
/-! DEFINITION. The combinational functions of the block: HopTable, ChannelPlan, KeySelector (41_hop_channel_key.md) and
PacketCodec (42_packetcodec.md). They read parameters and operands, never the state. -/

namespace Sys2Proof

namespace Config

/-- `ROM[id][slot]`, the HopTable read of 20_memory.md R50. Outside the index ranges, where such a read "cannot happen",
the value is free (log 15). -/
def rom (c : Config) (id slot : Nat) : Byte :=
  match c.HOP_ROM[id]? with
  | some row =>
    match row[slot]? with
    | some ch => ch
    | none => outsideRom id slot
  | none => outsideRom id slot

/-- `SEQ(id, slot) = ROM[id][slot]` (R130). -/
def seq (c : Config) (id : BitVec 3) (slot : Byte) : Byte := c.rom id.toNat slot.toNat

/-- The linear address of a ROM entry, `id * M + slot` (R52). -/
def romAddr (c : Config) (id slot : Nat) : Nat := id * c.M + slot

/-- The ROM laid out linearly, one entry per address (R52). -/
def romLinear (c : Config) : List Byte := c.HOP_ROM.flatten

/-- `FREQ(ch) = BASE_FREQUENCY + ch * CHANNEL_SPACING`, in hertz (R131). -/
def freq (c : Config) (ch : Byte) : Word := BitVec.ofNat 32 (c.BASE_FREQUENCY + ch.toNat * c.CHANNEL_SPACING)

/-- The `id` of `SELECT(sel)`: `(sel & 0x0F) & 0x07` (R133). -/
def selectId (sel : Byte) : BitVec 3 := (sel &&& SEL_MASK &&& SEQ_MASK).setWidth 3

/-- The `kb` of `SELECT(sel)`: `(HOP_KEY_OFFSET + (sel & 0x0F)) mod 256` (R133). -/
def selectKey (c : Config) (sel : Byte) : Byte := BitVec.ofNat 8 (c.HOP_KEY_OFFSET + (sel &&& SEL_MASK).toNat)

/-- `KEY16(kb)`: the template with the key byte at `KEY_POS` (R135). -/
def key16 (c : Config) (kb : Byte) : List Byte := c.KEY_TEMPLATE.set c.KEY_POS kb

/-- The slot after `slot`: `(slot + 1) mod M` (R173). -/
def nextSlot (c : Config) (slot : Byte) : Byte := BitVec.ofNat 8 ((slot.toNat + 1) % c.M)

end Config

/-- One of the 8 shift iterations of R150. -/
def crcShift (crc : Half) : Half := if crc.getLsbD 0 then (crc >>> 1) ^^^ CRC_POLY else crc >>> 1

/-- `n` shift iterations. -/
def crcShifts : Nat → Half → Half
  | 0, crc => crc
  | n + 1, crc => crcShifts n (crcShift crc)

/-- A byte enters the low 8 bits of the register and is shifted through (R150). -/
def crcByte (crc : Half) (b : Byte) : Half := crcShifts 8 (crc ^^^ b.setWidth 16)

/-- `CRC16(bytes)` (R150). -/
def crc16 (bytes : List Byte) : Half := bytes.foldl crcByte CRC_INIT

/-- One step of the bit-at-a-time form of R151: the register and the byte's remaining bits. -/
def crcBit (crc : Half) (d : Byte) : Half × Byte :=
  (if crc.getLsbD 0 ^^ d.getLsbD 0 then (crc >>> 1) ^^^ CRC_POLY else crc >>> 1, d >>> 1)

/-- `n` steps of the bit-at-a-time form. -/
def crcBits : Nat → Half → Byte → Half
  | 0, crc, _ => crc
  | n + 1, crc, d => crcBits n (crcBit crc d).1 (crcBit crc d).2

/-- `CRC16` in the bit-at-a-time form (R151). -/
def crc16Bitwise (bytes : List Byte) : Half := bytes.foldl (crcBits 8) CRC_INIT

/-- The payload of a frame, `frame[0 .. N-2)` (R153). -/
def payloadOf (n : Nat) (frame : List Byte) : List Byte := frame.take (n - CRC_LEN)

/-- The stored checksum of a frame, high byte first (R153, R56). -/
def storedCrc (n : Nat) (frame : List Byte) : Half := frame.getD (n - 2) 0 ++ frame.getD (n - 1) 0

namespace Config

/-- `VERIFY(frame)` (R153); false on every length but `N` (R59). -/
def verify (c : Config) (frame : List Byte) : Bool :=
  frame.length == c.N && crc16 (payloadOf c.N frame) == storedCrc c.N frame

end Config

/-- `ENCODE(payload)` (R154). Its precondition is a payload of `N-2` bytes; the one caller, `SUBMIT`, checks it (R156). -/
def encodeFrame (payload : List Byte) : List Byte :=
  payload ++ [(crc16 payload).extractLsb' 8 8, (crc16 payload).extractLsb' 0 8]

end Sys2Proof
end

