-- ==== Sys2Proof/Machine/State.lean ====
section
/-! DEFINITION. The state of the block (10_state.md), its requests and responses, the reasons a step can stop, and the
state after reset. -/

namespace Sys2Proof.Machine

open Sys2Proof

/-- `ctl_phase` (R40). -/
inductive Phase where
  | idle
  | txOnair
deriving DecidableEq, Repr

/-- A request to the radio driver with its arguments (R88), as `radio_log` holds it (R41). -/
inductive Request where
  | reset
  | configure (profile : List Byte)
  | setFreq (hz : Word)
  | setPower (level : Nat) (highPower : Bool)
  | setKey (key : List Byte)
  | avail
  | recv
  | xmit (frame : List Byte) (length : Nat)
  | waitDone
deriving DecidableEq, Repr

/-- The response codes of R95. -/
inductive RespCode where
  | ok
  | notReady
  | idle
  | blanked
  | radioFail
  | illegal
deriving DecidableEq, Repr

/-- Response data: none, the payload of `TAKE` (R157), or the 32-bit value of `STATUS` (R214). -/
inductive RespData where
  | none
  | payload (bytes : List Byte)
  | value (v : Word)
deriving DecidableEq, Repr

/-- A response on the command port (R81, R96). -/
structure Response where
  code : RespCode
  data : RespData
deriving DecidableEq, Repr

/-- The result of a radio request (R90). -/
inductive RadioResult where
  | none
  | success (ok : Bool)
  | available (a : Bool)
  | received (bytes : List Byte)
deriving DecidableEq, Repr

/-- No step of the block faults: "The block raises nothing. There is no trap, no exception vector, no handler, no saved
state and no fatal condition" (R230). Safe: there is nothing to stop at. -/
inductive Fault where
deriving DecidableEq, Repr

/-- The refusals of the model. -/
inductive Refusal where
  /-- An instruction without a meaning yet; raised by `exec`'s arms alone (none is left). Safe. -/
  | notModelled (mnemonic : String)
  /-- Raised by `TS.RESERVED`: the TickState codes 6 and 7 "are never issued" (R87). Safe: no effect is given. -/
  | tsCodeNeverIssued (code : BitVec 3)
  /-- Raised by `TS.PEEK f` for `f` in 5 to 65535, "never issued" (R112). Safe: no value is given. -/
  | peekFieldNeverIssued (f : Half)
  /-- Raised by `TX_DONE` in `IDLE`: "it cannot occur ... and a model gives it no step there" (R92). Safe; `step` never
  raises it, since it leaves the pulse for the next transmission (log 9). -/
  | txDoneInIdle
  /-- Raised by `step` for a presented signal that stands for no instruction (R88, R112). Safe: the block never drives
  such a signal and the application side has no way to. -/
  | undecodable (e : DecodeError)
deriving DecidableEq, Repr

/-- The state. The names are the spec's where the spec names the field. -/
structure State where
  /-- The straps (R7): "constant from reset onward". -/
  cfg : Config
  /-- TickState (R21). -/
  rx_countdown : Half
  /-- TickState (R22). -/
  tx_countdown : Half
  /-- TickState (R23). -/
  rx_expired : Bool
  /-- TickState (R24). -/
  tx_due : Bool
  /-- TickState (R25), the guard. -/
  inactivity_ticks : Half
  /-- LinkConfig (R27): true is the transmit role. -/
  role : Bool
  /-- LinkConfig (R28). -/
  hop_sequence_id : BitVec 3
  /-- LinkConfig (R29). -/
  active_key_byte : Byte
  /-- LinkConfig (R30): a slot, not a channel number. -/
  channel_index : Byte
  /-- SyncStats (R33). -/
  missed_hop_count : BitVec 5
  /-- Frame buffer (R34), `N` bytes. -/
  rx_buf : List Byte
  /-- Frame buffer (R35). -/
  rx_ready : Bool
  /-- Frame buffer (R36), `N` bytes. -/
  tx_buf : List Byte
  /-- Frame buffer (R37). -/
  tx_pending : Bool
  /-- Control sequencing (R40). -/
  ctl_phase : Phase
  /-- Every request made of the radio driver, oldest first (R41). -/
  radio_log : List Request
  /-- The model's own (log 18): every response given, oldest first (R96). -/
  response_log : List Response
  /-- The model's own (log 23): whether a valid frame has been received since reset, which the label `Listening` of R43 asks
  for. -/
  frame_received : Bool
  /-- The model's own (log 24): the last payload submitted, of which R45 (g) speaks. -/
  last_payload : Option (List Byte)
  /-- The model's own (log 18): the result of the last micro-operation presented by itself (R87). -/
  ts_result : Option Half
  /-- The model's own (log 18): the result of the last radio request presented by itself (R90). -/
  q_result : RadioResult
  /-- The model's own (log 1): what the environment has presented and the block has not yet taken, oldest first. -/
  inputs : List Input
  /-- The model's own (log 3): the radio driver's answers to the transition under way. -/
  answers : Answers
  /-- The model's own (log 3): how many inputs have been taken, the argument of the free values. -/
  turn : Nat
deriving DecidableEq, Repr

/-- The state after the reset taken at `turn` under the parameters `c`: the table of R44. -/
def State.atReset (c : Config) (turn : Nat) : State where
  cfg := c
  rx_countdown := 0
  tx_countdown := 0
  rx_expired := false
  tx_due := false
  inactivity_ticks := 0
  role := false
  hop_sequence_id := 0
  active_key_byte := BitVec.ofNat 8 c.HOP_KEY_OFFSET
  channel_index := 0
  missed_hop_count := 0
  rx_buf := c.rxBufAtReset turn
  rx_ready := false
  tx_buf := c.txBufAtReset turn
  tx_pending := false
  ctl_phase := .idle
  radio_log := []
  response_log := []
  frame_received := false
  last_payload := none
  ts_result := none
  q_result := .none
  inputs := []
  answers := Config.freeAnswers turn
  turn := turn

/-- The state right after reset: the table of R44, nothing presented by the environment yet (R262: "the first thing that
happens is whatever transition the environment causes first"). -/
def State.reset : State := State.atReset Config.straps 0

end Sys2Proof.Machine
end

