-- ==== Sys2Proof/Machine/Operands.lean ====
section
/-! DEFINITION. Immediate assembly (30_encoding.md R84), the fields of `TS.PEEK` (R112) and the selects of `STATUS` (R97),
and what a radio answer hands in (R90). -/

namespace Sys2Proof.Machine

open Sys2Proof

/-- `CFG_ROLE` uses `imm[0]` and ignores `imm[7:1]` (R84). -/
def roleOfImm (imm : Byte) : Bool := imm.getLsbD 0

/-- One bit, zero-extended to the 16-bit result of a peek (R112). -/
def bitHalf (b : Bool) : Half := if b then 1 else 0

/-- `TS.PEEK f`: the named field, zero-extended to 16 bits (R112); nothing for `f` in 5 to 65535. -/
def peekField (f : Half) (s : State) : Option Half :=
  match f.toNat with
  | 0 => some s.rx_countdown
  | 1 => some s.tx_countdown
  | 2 => some (bitHalf s.rx_expired)
  | 3 => some (bitHalf s.tx_due)
  | 4 => some s.inactivity_ticks
  | _ => none

/-- The bytes `Q.RECV` hands in: "a length `len` in 0 to 255 and a byte sequence of exactly `len` bytes" (R90; log 17). -/
def receivedBytes (a : Answers) : List Byte := a.recv.take 255

/-- The 4-bit code of a response (R95). -/
def RespCode.bits : RespCode → BitVec 4
  | .ok => 0x0
  | .notReady => 0x1
  | .idle => 0x2
  | .blanked => 0x3
  | .radioFail => 0x4
  | .illegal => 0xF

/-- The 4-bit code `rq` of a radio request (R88). -/
def Request.code : Request → BitVec 4
  | .reset => 0
  | .configure _ => 1
  | .setFreq _ => 2
  | .setPower _ _ => 3
  | .setKey _ => 4
  | .avail => 5
  | .recv => 6
  | .xmit _ _ => 7
  | .waitDone => 8

/-- `ctl_phase` as a bit: `IDLE` (0) or `TX_ONAIR` (1) (10_state.md R40). -/
def Phase.bit : Phase → BitVec 1
  | .idle => 0
  | .txOnair => 1

end Sys2Proof.Machine
end

