-- ==== Sys2Proof/Machine/Flags.lean ====
section
/-! DEFINITION. The flag computations: the expiry flags and the guard of `TICK` (40_tickstate.md R110), the blanked
condition (00_scope.md R17), and the flags word of `STATUS` (30_encoding.md R98). -/

namespace Sys2Proof.Machine

open Sys2Proof

/-- A countdown after a tick: one less, unless it is 0 (R110, R111 (a)). -/
def countDown (cnt : Half) : Half := if cnt = 0 then 0 else cnt - 1

/-- An expiry flag after a tick: set in the tick that brings the countdown to 0, and never cleared (R110, R111 (b)). -/
def expireFlag (cnt : Half) (flag : Bool) : Bool := flag || (cnt != 0 && countDown cnt == 0)

/-- The guard after a tick: one more, up to `BLANKING_TIMEOUT` (R110, R111 (c)). -/
def guardUp (c : Config) (guard : Half) : Half := if guard.toNat < c.BLANKING_TIMEOUT then guard + 1 else guard

/-- Blanked: `inactivity_ticks = BLANKING_TIMEOUT` (R17, R191). -/
def State.blanked (s : State) : Bool := s.inactivity_ticks.toNat == s.cfg.BLANKING_TIMEOUT

/-- Parked: `missed_hop_count = 20` (R17). -/
def State.parked (s : State) : Bool := s.missed_hop_count.toNat == MISS_CAP

/-- The labels the document gives the receive machine (R43). -/
inductive ReceiveLabel where
  | locked
  | listening
  | resyncing
deriving DecidableEq, Repr

/-- Which labels R43 gives a state; no rule reads them. Before the first frame `Listening` holds beside the label of the
count. -/
def State.hasLabel (s : State) : ReceiveLabel → Bool
  | .locked => s.missed_hop_count.toNat == 0
  | .listening => (1 ≤ s.missed_hop_count.toNat && s.missed_hop_count.toNat ≤ 19) || !s.frame_received
  | .resyncing => s.parked

/-- One of those labels: where two hold, `Resyncing` goes before `Listening` and that before `Locked` (DESIGN CHOICE,
log 23), so a receiver that has heard nothing is never called locked. -/
def State.receiveLabel (s : State) : ReceiveLabel :=
  if s.parked then .resyncing else if s.hasLabel .listening then .listening else .locked

/-- One flag at its place in the flags word. -/
def flagAt (b : Bool) (i : Nat) : Word := if b then 1 <<< i else 0

/-- The flags word (R98): bit 0 `rx_expired`, bit 1 `tx_due`, bit 2 `rx_ready`, bit 3 `tx_pending`, bit 4 `role`, bit 5
blanked, bits 31:6 zero. -/
def flagsWord (s : State) : Word :=
  flagAt s.rx_expired 0 ||| flagAt s.tx_due 1 ||| flagAt s.rx_ready 2 ||| flagAt s.tx_pending 3 ||| flagAt s.role 4 |||
    flagAt s.blanked 5

end Sys2Proof.Machine
end

