-- ==== Sys2Proof/Machine/Ops.lean ====
section
/-! DEFINITION. The shared operations: responses and radio requests (00_scope.md R15), the micro-operations of the TickState
port and the tick (40_tickstate.md), the current frequency, the acceptance of commands (30_encoding.md R82), the choice of
the next input, and reset (70_reset_and_hazards.md R260). The block has no exception to take and none to return from
(60_exceptions.md R230, R240, R241); a failure is a response. -/

namespace Sys2Proof.Machine

open Sys2Proof

/-- What an instruction or a step answers. -/
abbrev Result := Host.Outcome State Fault Refusal

/-- `respond(code, data)` (R15): ends a command. -/
def respond (code : RespCode) (data : RespData) (s : State) : State :=
  { s with response_log := s.response_log ++ [⟨code, data⟩] }

/-- `radio.<request>(args)` (R15, R216): the request and its arguments are appended to `radio_log`. -/
def request (q : Request) (s : State) : State := { s with radio_log := s.radio_log ++ [q] }

/-- `CUR_FREQ = FREQ(SEQ(hop_sequence_id, channel_index))` (R132). -/
def State.curChannel (s : State) : Byte := s.cfg.seq s.hop_sequence_id s.channel_index

/-- `CUR_FREQ` (R132). -/
def State.curFreq (s : State) : Word := s.cfg.freq s.curChannel

/-- `radio.set_frequency(CUR_FREQ)`; what the driver answers is `answers.freqOk` (R90). -/
def retune (s : State) : State := request (.setFreq s.curFreq) s

/-- `TS.ARM_RX v` (R113). -/
def tsArmRx (v : Half) (s : State) : State := { s with rx_countdown := v }

/-- `TS.ARM_TX v` (R114). -/
def tsArmTx (v : Half) (s : State) : State := { s with tx_countdown := v }

/-- `TS.TAKE_RX`, the atomic read-and-clear: the old flag, and the state with the flag cleared (R115). -/
def tsTakeRx (s : State) : Bool × State := (s.rx_expired, { s with rx_expired := false })

/-- `TS.TAKE_TX`, the atomic read-and-clear (R116). -/
def tsTakeTx (s : State) : Bool × State := (s.tx_due, { s with tx_due := false })

/-- `TS.GUARD_CLR` (R117). -/
def tsGuardClr (s : State) : State := { s with inactivity_ticks := 0 }

/-- `TICK` (R110): all three parts, in both roles and both phases. -/
def tickState (s : State) : State :=
  { s with
    rx_countdown := countDown s.rx_countdown
    rx_expired := expireFlag s.rx_countdown s.rx_expired
    tx_countdown := countDown s.tx_countdown
    tx_due := expireFlag s.tx_countdown s.tx_due
    inactivity_ticks := guardUp s.cfg s.inactivity_ticks }

/-- A micro-operation and a tick in the same instant: the micro-operation first, the tick second (R66, R118). -/
def withTick (op : State → State) (s : State) : State := tickState (op s)

/-- `n` ticks in a row, the pseudo-operation `TICKS n` (R101). -/
def ticks : Nat → State → State
  | 0, s => s
  | n + 1, s => ticks n (tickState s)

/-- `channel_index <- (channel_index + 1) mod M` (R173, R193). -/
def advanceSlot (s : State) : State := { s with channel_index := s.cfg.nextSlot s.channel_index }

/-- The result of a micro-operation presented by itself (R87). -/
def tsReturn (r : Option Half) (s : State) : State := { s with ts_result := r }

/-- The result of a radio request presented by itself (R90). -/
def qReturn (r : RadioResult) (s : State) : State := { s with q_result := r }

/-- A command is executed only in `IDLE`. In `TX_ONAIR` the port holds it off: it is "not lost and not answered, it
waits", and the state stays as it is (R82; log 8). -/
def accept (body : State → State) (s : State) : Result :=
  .next (match s.ctl_phase with
    | .idle => body s
    | .txOnair => s)

/-- Whether the block takes an input now: a command only in `IDLE` (R82), `TX_DONE` only in `TX_ONAIR` (R92), everything
else always (R91). -/
def enabled (p : Phase) : Input → Bool
  | .signal (.command _ _) _ =>
    match p with
    | .idle => true
    | .txOnair => false
  | .signal .txDone _ =>
    match p with
    | .idle => false
    | .txOnair => true
  | .signal (.tickState _ _) _ => true
  | .signal (.radio _ _) _ => true
  | .signal .tick _ => true
  | .reset => true

/-- The first presented input that the block takes now, and the others in their order (R82: one that is held off is not
lost). -/
def takeEnabled (p : Phase) : List Input → Option (Input × List Input)
  | [] => none
  | i :: rest =>
    match enabled p i with
    | true => some (i, rest)
    | false =>
      match takeEnabled p rest with
      | some (j, others) => some (j, i :: others)
      | none => none

/-- An input is taken: the others stay presented, the radio's answers to the transition are the input's or free (R15). -/
def load (others : List Input) (answers : Option Answers) (s : State) : State :=
  { s with
    inputs := others
    answers := match answers with
      | some a => a
      | none => Config.freeAnswers s.turn
    turn := s.turn + 1 }

/-- The reset input (R260): the table of R44 again, under the same straps. What the environment has presented stays
presented, and the free values go on (log 16). -/
def applyReset (others : List Input) (s : State) : State :=
  { State.atReset s.cfg (s.turn + 1) with inputs := others }

/-- The next state, if there is one. -/
def nextOf : Result → Option State
  | .next s => some s
  | .fault _ => none
  | .refused _ => none

end Sys2Proof.Machine
end

