-- ==== Sys2Proof/Machine/LinkSynchronizer.lean ====
section
/-! DEFINITION. LinkSynchronizer, the receive step (43_linksynchronizer.md R171 to R176). -/

namespace Sys2Proof.Machine

open Sys2Proof

/-- Action 1, the poll (R171): the valid frame that was waiting, if any, and the state with the requests made. The frame
stands in `rx_stage` (10_state.md R38), which is this value. -/
def rxPoll (s : State) : Option (List Byte) × State :=
  if s.answers.avail then
    (if s.cfg.verify (receivedBytes s.answers) then some (receivedBytes s.answers) else none,
      request .recv (request .avail s))
  else (none, request .avail s)

/-- Action 2, the commit (R172); `frame_received` is an observation (log 23). -/
def rxCommit (frame : List Byte) (s : State) : State :=
  { s with rx_buf := frame, rx_ready := true, missed_hop_count := 0, frame_received := true }

/-- Action 4 without a frame (R174): arm for one hop period; count the miss, or force slot 0 at the cap. -/
def rxMiss (s : State) : State :=
  if s.parked then { tsArmRx s.cfg.hopLoad s with channel_index := 0 }
  else { tsArmRx s.cfg.hopLoad s with missed_hop_count := s.missed_hop_count + 1 }

/-- Action 4 with a frame (R174): arm for 1.2 hop periods. -/
def rxHit (s : State) : State := tsArmRx s.cfg.hitLoad s

/-- Action 5, clear and retune (R175). -/
def rxFinish (s : State) : State := respond .ok .none (retune (tsTakeRx s).2)

/-- `RX_STEP`, whole (R176). -/
def rxStep (s : State) : State :=
  match rxPoll s with
  | (some frame, polled) => rxFinish (rxHit (advanceSlot (rxCommit frame polled)))
  | (none, polled) =>
    if polled.rx_expired then rxFinish (rxMiss (advanceSlot polled)) else respond .idle .none polled

end Sys2Proof.Machine
end

