-- ==== Sys2Proof/Machine/TxScheduler.lean ====
section
/-! DEFINITION. TxScheduler (44_txscheduler.md): the transmit step with the fire, the event `TX_DONE`, and `CLR_GUARD`. -/

namespace Sys2Proof.Machine

open Sys2Proof

/-- The fire (R192); the response is withheld until `TX_DONE`. -/
def txFire (s : State) : State :=
  { request .waitDone (request (.xmit s.tx_buf s.cfg.N) (tsTakeTx (tsArmTx s.cfg.hopLoad s)).2) with
    ctl_phase := .txOnair }

/-- `TX_STEP` (R192), reached only when not blanked. -/
def txStep (s : State) : State := if s.tx_due then txFire s else respond .idle .none s

/-- The end of a transmission (R193): advance, retune, the buffer is consumed, and the `STEP` that fired is answered. -/
def txFinish (s : State) : State :=
  respond .ok .none { retune (advanceSlot s) with tx_pending := false, ctl_phase := .idle }

/-- `TX_DONE` (R193), "enabled only in `ctl_phase = TX_ONAIR`"; in `IDLE` "it cannot occur" (R92; log 9). -/
def execTxDone (s : State) : Result :=
  match s.ctl_phase with
  | .txOnair => .next (txFinish s)
  | .idle => .refused .txDoneInIdle

/-- `CLR_GUARD` (R194); `imm` is ignored. -/
def execClrGuard (_imm : Byte) (s : State) : Result := accept (fun t => respond .ok .none (tsGuardClr t)) s

end Sys2Proof.Machine
end

