-- ==== Sys2Proof/Machine/ControlTask.lean ====
section
/-! DEFINITION. ControlTask (45_controltask.md): the dispatcher `STEP` and the remaining commands. -/

namespace Sys2Proof.Machine

open Sys2Proof

/-- The dispatch of `STEP` on the role, with the blanked test (R210). -/
def controlStep (s : State) : State :=
  if s.role then
    if s.blanked then respond .blanked .none s else txStep s
  else rxStep s

/-- `STEP` (R210); `imm` is ignored. -/
def execStep (_imm : Byte) (s : State) : Result := accept controlStep s

/-- `NOP` (R211); `imm` is ignored. -/
def execNop (_imm : Byte) (s : State) : Result := accept (respond .ok .none) s

/-- `CFG_ROLE` (R212). -/
def execCfgRole (imm : Byte) (s : State) : Result :=
  accept (fun t => respond .ok .none { t with role := roleOfImm imm }) s

/-- What `START` writes to the state (R213). -/
def startTimers (s : State) : State :=
  (tsTakeTx (tsTakeRx
    (tsArmTx s.cfg.hopLoad (tsArmRx s.cfg.hopLoad { s with channel_index := 0, missed_hop_count := 0 }))).2).2

/-- The body of `START` (R213): the driver's answer to `set_frequency` is the response. -/
def start (s : State) : State :=
  respond (if s.answers.freqOk then .ok else .radioFail) .none
    (retune (request (.setKey (s.cfg.key16 s.active_key_byte)) (startTimers s)))

/-- `START` (R213); `imm` is ignored. -/
def execStart (_imm : Byte) (s : State) : Result := accept start s

/-- The value of a status select, zero-extended to 32 bits (R97); nothing for an undefined select. -/
def statusValue (f : Byte) (s : State) : Option Word :=
  match f.toNat with
  | 0x00 => some (s.rx_countdown.setWidth 32)
  | 0x01 => some (s.tx_countdown.setWidth 32)
  | 0x02 => some (flagsWord s)
  | 0x03 => some (s.inactivity_ticks.setWidth 32)
  | 0x04 => some (s.hop_sequence_id.setWidth 32)
  | 0x05 => some (s.active_key_byte.setWidth 32)
  | 0x06 => some (s.channel_index.setWidth 32)
  | 0x07 => some (s.missed_hop_count.setWidth 32)
  | 0x08 => some (s.curChannel.setWidth 32)
  | 0x09 => some s.curFreq
  | _ => none

/-- The body of `STATUS` (R214). -/
def status (f : Byte) (s : State) : State :=
  match statusValue f s with
  | some v => respond .ok (.value v) s
  | none => respond .illegal .none s

/-- `STATUS` (R214). -/
def execStatus (imm : Byte) (s : State) : Result := accept (status imm) s

/-- A reserved command word (R215). -/
def execReserved (_op _imm : Byte) (s : State) : Result := accept (respond .illegal .none) s

end Sys2Proof.Machine
end

