-- ==== Sys2Proof/Machine/KeySelector.lean ====
section
/-! DEFINITION. KeySelector's command `CFG_SEL` (41_hop_channel_key.md R136). -/

namespace Sys2Proof.Machine

open Sys2Proof

/-- The new selector is applied: both fields in one transition, and the key is sent (R136). -/
def applySelector (sel : Byte) (s : State) : State :=
  request (.setKey (s.cfg.key16 (s.cfg.selectKey sel)))
    { s with
      hop_sequence_id := Config.selectId sel
      active_key_byte := s.cfg.selectKey sel }

/-- The body of `CFG_SEL` (R136): a no-op if the derived key byte is the one already active. -/
def cfgSel (sel : Byte) (s : State) : State :=
  respond .ok .none (if s.cfg.selectKey sel = s.active_key_byte then s else applySelector sel s)

/-- `CFG_SEL` (R136). -/
def execCfgSel (imm : Byte) (s : State) : Result := accept (cfgSel imm) s

end Sys2Proof.Machine
end

