-- ==== Sys2Proof/Machine/PacketCodec.lean ====
section
/-! DEFINITION. The buffer commands `SUBMIT` and `TAKE` (42_packetcodec.md R156, R157). -/

namespace Sys2Proof.Machine

open Sys2Proof

/-- A payload is accepted (R156); `last_payload` is an observation (log 24). -/
def submitAccepted (payload : List Byte) (s : State) : State :=
  respond .ok .none (tsGuardClr
    { s with tx_buf := encodeFrame payload, tx_pending := true, last_payload := some payload })

/-- The body of `SUBMIT` (R156): the length is tested first, then whether the last payload is consumed. -/
def submit (payload : List Byte) (s : State) : State :=
  if payload.length ≠ s.cfg.N - CRC_LEN then respond .illegal .none s
  else if s.tx_pending then respond .notReady .none s
  else submitAccepted payload s

/-- `SUBMIT` (R156); `imm` is ignored. -/
def execSubmit (_imm : Byte) (payload : List Byte) (s : State) : Result := accept (submit payload) s

/-- The body of `TAKE` (R157), the unreachable CRC branch included. -/
def takeFrame (s : State) : State :=
  if s.rx_ready then
    if s.cfg.verify s.rx_buf then
      respond .ok (.payload (payloadOf s.cfg.N s.rx_buf)) { s with rx_ready := false }
    else respond .notReady .none { s with rx_ready := false }
  else respond .notReady .none s

/-- `TAKE` (R157); `imm` is ignored. -/
def execTake (_imm : Byte) (s : State) : Result := accept takeFrame s

end Sys2Proof.Machine
end

