-- ==== Sys2Proof/Machine/RadioPort.lean ====
section
/-! DEFINITION. The radio requests (30_encoding.md R88 to R90; 45_controltask.md R216), each as it acts when it is presented
by itself (log 7): it is appended to `radio_log`, and its result is the driver's answer. -/

namespace Sys2Proof.Machine

open Sys2Proof

/-- `Q.RESET` (R88). The block itself never issues it (R89). -/
def execQReset (s : State) : Result := .next (qReturn .none (request .reset s))

/-- `Q.CONFIGURE` (R88). The block itself never issues it (R89). -/
def execQConfigure (profile : List Byte) (s : State) : Result := .next (qReturn .none (request (.configure profile) s))

/-- `Q.SET_FREQ` (R88): the result is the success bit (R90). -/
def execQSetFreq (hz : Word) (s : State) : Result := .next (qReturn (.success s.answers.freqOk) (request (.setFreq hz) s))

/-- `Q.SET_POWER` (R88). The block itself never issues it (R89). -/
def execQSetPower (level : Nat) (highPower : Bool) (s : State) : Result :=
  .next (qReturn .none (request (.setPower level highPower) s))

/-- `Q.SET_KEY` (R88). -/
def execQSetKey (key : List Byte) (s : State) : Result := .next (qReturn .none (request (.setKey key) s))

/-- `Q.AVAIL` (R88): the result is one bit (R90). -/
def execQAvail (s : State) : Result := .next (qReturn (.available s.answers.avail) (request .avail s))

/-- `Q.RECV` (R88): the result is a length and that many bytes (R90). -/
def execQRecv (s : State) : Result := .next (qReturn (.received (receivedBytes s.answers)) (request .recv s))

/-- `Q.XMIT` (R88). -/
def execQXmit (frame : List Byte) (s : State) : Result := .next (qReturn .none (request (.xmit frame frame.length) s))

/-- `Q.WAIT_DONE` (R88): it "completes later, as the event `TX_DONE`" (R90). -/
def execQWaitDone (s : State) : Result := .next (qReturn .none (request .waitDone s))

end Sys2Proof.Machine
end

