-- ==== Sys2Proof/Machine/TickState.lean ====
section
/-! DEFINITION. TickState (40_tickstate.md): the event `TICK` and the micro-operations of the internal port, each as it acts
when it is presented by itself (log 7). -/

namespace Sys2Proof.Machine

open Sys2Proof

/-- `TS.PEEK f` (R112): returns the field, writes nothing. -/
def execTsPeek (f : Half) (s : State) : Result :=
  match peekField f s with
  | some v => .next (tsReturn (some v) s)
  | none => .refused (.peekFieldNeverIssued f)

/-- `TS.ARM_RX v` (R113; R119 for `v = 0`). -/
def execTsArmRx (v : Half) (s : State) : Result := .next (tsReturn none (tsArmRx v s))

/-- `TS.ARM_TX v` (R114; R119 for `v = 0`). -/
def execTsArmTx (v : Half) (s : State) : Result := .next (tsReturn none (tsArmTx v s))

/-- `TS.TAKE_RX` (R115). -/
def execTsTakeRx (s : State) : Result := .next (tsReturn (some (bitHalf (tsTakeRx s).1)) (tsTakeRx s).2)

/-- `TS.TAKE_TX` (R116). -/
def execTsTakeTx (s : State) : Result := .next (tsReturn (some (bitHalf (tsTakeTx s).1)) (tsTakeTx s).2)

/-- `TS.GUARD_CLR` (R117). -/
def execTsGuardClr (s : State) : Result := .next (tsReturn none (tsGuardClr s))

/-- `TS.RESERVED`: "codes 6 and 7 are never issued" (R87); the spec gives them no effect. -/
def execTsReserved (code : BitVec 3) (_s : State) : Result := .refused (.tsCodeNeverIssued code)

/-- `TICK` (R110): "enabled in every state and in both phases, and gives no response". -/
def execTick (s : State) : Result := .next (tickState s)

end Sys2Proof.Machine
end

