-- ==== Sys2Proof/Machine/Dispatch.lean ====
section
/-! DEFINITION. One arm per row of spec/opcode_table.json, each a direct call of its meaning. -/

namespace Sys2Proof.Machine

open Sys2Proof

def exec (i : Instr) (s : State) : Host.Outcome State Fault Refusal :=
  match i with
  | .nop imm => Sys2Proof.Machine.execNop imm s
  | .start imm => Sys2Proof.Machine.execStart imm s
  | .cfgRole imm => Sys2Proof.Machine.execCfgRole imm s
  | .cfgSel imm => Sys2Proof.Machine.execCfgSel imm s
  | .clrGuard imm => Sys2Proof.Machine.execClrGuard imm s
  | .submit imm payload => Sys2Proof.Machine.execSubmit imm payload s
  | .take imm => Sys2Proof.Machine.execTake imm s
  | .step imm => Sys2Proof.Machine.execStep imm s
  | .status imm => Sys2Proof.Machine.execStatus imm s
  | .reserved op imm => Sys2Proof.Machine.execReserved op imm s
  | .tsPeek f => Sys2Proof.Machine.execTsPeek f s
  | .tsArmRx v => Sys2Proof.Machine.execTsArmRx v s
  | .tsArmTx v => Sys2Proof.Machine.execTsArmTx v s
  | .tsTakeRx => Sys2Proof.Machine.execTsTakeRx s
  | .tsTakeTx => Sys2Proof.Machine.execTsTakeTx s
  | .tsGuardClr => Sys2Proof.Machine.execTsGuardClr s
  | .tsReserved code => Sys2Proof.Machine.execTsReserved code s
  | .qReset => Sys2Proof.Machine.execQReset s
  | .qConfigure profile => Sys2Proof.Machine.execQConfigure profile s
  | .qSetFreq hz => Sys2Proof.Machine.execQSetFreq hz s
  | .qSetPower level highPower => Sys2Proof.Machine.execQSetPower level highPower s
  | .qSetKey key => Sys2Proof.Machine.execQSetKey key s
  | .qAvail => Sys2Proof.Machine.execQAvail s
  | .qRecv => Sys2Proof.Machine.execQRecv s
  | .qXmit frame => Sys2Proof.Machine.execQXmit frame s
  | .qWaitDone => Sys2Proof.Machine.execQWaitDone s
  | .tick => Sys2Proof.Machine.execTick s
  | .txDone => Sys2Proof.Machine.execTxDone s

end Sys2Proof.Machine
end

