-- ==== Sys2Proof/Machine/Step.lean ====
section
/-! DEFINITION. One step: one transition of the block (00_scope.md R11). -/

namespace Sys2Proof.Machine

open Sys2Proof

/-- One transition: the first presented input that is enabled is taken, decoded and executed (R11, R82, R91, R92). Where the
environment presents none, nothing happens (log 2). -/
def step (s : State) : Host.Outcome State Fault Refusal :=
  match takeEnabled s.ctl_phase s.inputs with
  | none => .next s
  | some (.reset, others) => .next (applyReset others s)
  | some (.signal sig answers, others) =>
    match decode sig with
    | .ok i => exec i (load others answers s)
    | .error e => .refused (.undecodable e)

/-- The environment presents the word `w` of spec/opcode_table.json as its first input, with every operand bit 0 and the
radio's answers left free (log 13). -/
def State.withFetchWord (s : State) (nbits w : Nat) : State :=
  match tableSignal s.cfg nbits w with
  | some sig => { s with inputs := .signal sig none :: s.inputs }
  | none => s

end Sys2Proof.Machine
end

