-- ==== Sys2Proof/Machine/Trace.lean ====
section
/-! DEFINITION. Runs of several transitions: the pseudo-operations of the trace syntax (30_encoding.md R100, R101), a run of
misses (43_linksynchronizer.md R178 (b)), and two coupled stations (60_exceptions.md R245). Nothing here is a transition of
its own. -/

namespace Sys2Proof.Machine

open Sys2Proof

/-- An instruction as an input, with the radio draws it consumes (R100). -/
def asInput (i : Instr) (a : Answers) : Input := .signal (encode i) (some a)

/-- `TICKS n` (R101). -/
def ticksInputs (n : Nat) (a : Answers) : List Input := List.replicate n (asInput .tick a)

/-- `SEND`: `STEP` that fires, then `TXDONE` (R101). -/
def sendInputs (a : Answers) : List Input := [asInput (.step 0) a, asInput .txDone a]

/-- One transition performed with the given radio draws; where it has no step the state stays. -/
def perform (i : Instr) (a : Answers) (s : State) : State :=
  match nextOf (exec i { s with answers := a }) with
  | some t => t
  | none => s

/-- The code of the last response. -/
def lastCode (s : State) : Option RespCode := s.response_log.getLast?.map Response.code

/-- `WAIT_RX`: `STEP` repeated until its response is not `IDLE`, with the given number of ticks between the repetitions
(R101, R177). The list is what the environment does: the draws of each poll and the ticks after it. -/
def waitRx : List (Answers × Nat) → State → State
  | [], s => s
  | (a, n) :: rest, s =>
    if lastCode (perform (.step 0) a s) = some .idle then waitRx rest (ticks n (perform (.step 0) a s))
    else perform (.step 0) a s

/-- The radio hands in no valid frame: nothing waits, or what waits fails `VERIFY` (R171). -/
def NoValidFrame (c : Config) (a : Answers) : Prop := a.avail = false ∨ c.verify (receivedBytes a) = false

/-- The receiver waits its countdown out and steps once. -/
def expireAndStep (a : Answers) (s : State) : State := perform (.step 0) a (ticks s.rx_countdown.toNat s)

/-- One such wait and step after another, the radio's draws of each given. -/
def expireAndSteps : List Answers → State → State
  | [], s => s
  | a :: rest, s => expireAndSteps rest (expireAndStep a s)

/-- One hop cycle of a transmitter `a` and a receiver `b` (95_test_vectors.md P5): both count one hop period; `a` is fed
and fires; what `a` sends is what `b` receives; `a`'s transmission completes; `b`'s application takes the payload. The
draws `da` and `db` are the radios' other answers. -/
def linkCycle (payload : List Byte) (da db : Answers) (ab : State × State) : State × State :=
  let a₁ := perform (.submit 0 payload) da (ticks ab.1.cfg.hopTicks ab.1)
  let a₂ := perform (.step 0) da a₁
  let b₁ := perform (.step 0) { db with avail := true, recv := a₂.tx_buf } (ticks ab.1.cfg.hopTicks ab.2)
  (perform .txDone da a₂, perform (.take 0) db b₁)

/-- One such cycle per payload. -/
def linkCycles (da db : Answers) : List (List Byte) → State × State → State × State
  | [], ab => ab
  | p :: rest, ab => linkCycles da db rest (linkCycle p da db ab)

end Sys2Proof.Machine
end

