-- ==== Sys2Proof/Safety.lean ====
section
/-! DEFINITION. What a safe state is, in the terms claims use: the invariants of 10_state.md R45, which inputs come from
outside the block, and when two stations are in step. -/

namespace Sys2Proof

open Machine

/-- Which operations are transitions of the block: commands and events (R11). The micro-operations and the radio requests
are driven by the block's own control logic inside a transition (R87, R88). -/
def Instr.isTransition : Instr → Bool
  | .nop _ | .start _ | .cfgRole _ | .cfgSel _ | .clrGuard _ | .submit _ _ | .take _ | .step _ | .status _
  | .reserved _ _ | .tick | .txDone => true
  | .tsPeek _ | .tsArmRx _ | .tsArmTx _ | .tsTakeRx | .tsTakeTx | .tsGuardClr | .tsReserved _ => false
  | .qReset | .qConfigure _ | .qSetFreq _ | .qSetPower _ _ | .qSetKey _ | .qAvail | .qRecv | .qXmit _
  | .qWaitDone => false

/-- Which operations are commands (R83). -/
def Instr.isCommand : Instr → Bool
  | .nop _ | .start _ | .cfgRole _ | .cfgSel _ | .clrGuard _ | .submit _ _ | .take _ | .step _ | .status _
  | .reserved _ _ => true
  | .tick | .txDone => false
  | .tsPeek _ | .tsArmRx _ | .tsArmTx _ | .tsTakeRx | .tsTakeTx | .tsGuardClr | .tsReserved _ => false
  | .qReset | .qConfigure _ | .qSetFreq _ | .qSetPower _ _ | .qSetKey _ | .qAvail | .qRecv | .qXmit _
  | .qWaitDone => false

/-- An input that the block's surroundings can present: a command, an event, or reset (R80). The internal TickState port and
the radio port are driven by the block itself. -/
def Input.external : Input → Bool
  | .signal (.command _ _) _ => true
  | .signal .tick _ => true
  | .signal .txDone _ => true
  | .signal (.tickState _ _) _ => false
  | .signal (.radio _ _) _ => false
  | .reset => true

/-- The table of 45_controltask.md R217: the codes (R88) of the requests a transition makes, in order. A command that is held
off makes none. -/
def requestCodes (i : Instr) (s : State) : List (BitVec 4) :=
  match s.ctl_phase, i with
  | .idle, .start _ => [4, 2]
  | .idle, .cfgSel imm => if s.cfg.selectKey imm = s.active_key_byte then [] else [4]
  | .idle, .step _ =>
    if s.role then (if s.tx_due && !s.blanked then [7, 8] else [])
    else
      (if s.answers.avail then [5, 6] else [5]) ++
      (if (s.answers.avail && s.cfg.verify (receivedBytes s.answers)) || s.rx_expired then [2] else [])
  | .txOnair, .txDone => [2]
  | _, _ => []

/-- R45, with the lengths of the buffers (R34, R36), the legal parameter set it assumes, and that what is presented comes
from outside. -/
structure Inv (s : State) : Prop where
  legal : s.cfg.Legal
  rxCountdown : s.rx_countdown.toNat ≤ s.cfg.hitTicks
  txCountdown : s.tx_countdown.toNat ≤ s.cfg.hopTicks
  guard : s.inactivity_ticks.toNat ≤ s.cfg.BLANKING_TIMEOUT
  slot : s.channel_index.toNat < s.cfg.M
  misses : s.missed_hop_count.toNat ≤ MISS_CAP
  rxFrame : s.rx_ready = true → s.cfg.verify s.rx_buf = true
  selector : ∃ sel : Byte, s.hop_sequence_id = Config.selectId sel ∧ s.active_key_byte = s.cfg.selectKey sel
  txFrame : s.tx_pending = true →
    ∃ payload : List Byte, s.last_payload = some payload ∧ payload.length = s.cfg.N - CRC_LEN ∧
      s.tx_buf = encodeFrame payload
  rxLength : s.rx_buf.length = s.cfg.N
  txLength : s.tx_buf.length = s.cfg.N
  external : ∀ i ∈ s.inputs, i.external = true

/-- A transmitter `a` and a receiver `b` are in step: the same parameters, sequence and slot, and `a` one hop period away
from its next fire (R245). -/
structure InStep (a b : State) : Prop where
  legal : a.cfg.Legal
  sameConfig : b.cfg = a.cfg
  roleA : a.role = true
  roleB : b.role = false
  idleA : a.ctl_phase = .idle
  idleB : b.ctl_phase = .idle
  sameSequence : b.hop_sequence_id = a.hop_sequence_id
  sameSlot : b.channel_index = a.channel_index
  slot : a.channel_index.toNat < a.cfg.M
  armed : a.tx_countdown = a.cfg.hopLoad
  notDue : a.tx_due = false
  consumed : a.tx_pending = false

end Sys2Proof
end

