-- ==== Sys2Proof/Certificates/Slice0/Obligations.lean ====
section
/-! DEFINITION. The statements for the provers. Each docstring names the rule of spec/ the statement formalises, or says
what it is derived from. -/

open Sys2Proof Sys2Proof.Machine

/-! ### The commands (format C) -/

/-- 45_controltask.md R211: `NOP`, encoding and whole effect. The next state differs from the state in nothing but the
response. -/
def Obligations.NopOnlyAnswersOk : Prop :=
  ∀ (s : State) (imm : Byte) (operand : List Byte),
    decode (.command (0x00#8 ++ imm) operand) = .ok (.nop imm) ∧
    (s.ctl_phase = .idle →
      exec (.nop imm) s = .next { s with response_log := s.response_log ++ [⟨.ok, .none⟩] })

/-- 45_controltask.md R215: reserved command words, encoding and whole effect. -/
def Obligations.ReservedWordsAnswerIllegal : Prop :=
  ∀ (s : State) (op imm : Byte) (operand : List Byte), 9 ≤ op.toNat →
    decode (.command (op ++ imm) operand) = .ok (.reserved op imm) ∧
    (s.ctl_phase = .idle →
      exec (.reserved op imm) s = .next { s with response_log := s.response_log ++ [⟨.illegal, .none⟩] })

/-- 45_controltask.md R213 (the spec's decision D10): `START`, encoding and whole effect, both answers of the driver. -/
def Obligations.StartRestartsTimingAtSlotZero : Prop :=
  ∀ (s : State) (imm : Byte) (operand : List Byte),
    decode (.command (0x01#8 ++ imm) operand) = .ok (.start imm) ∧
    (s.ctl_phase = .idle →
      exec (.start imm) s = .next { s with
        channel_index := 0
        missed_hop_count := 0
        rx_countdown := s.cfg.hopLoad
        tx_countdown := s.cfg.hopLoad
        rx_expired := false
        tx_due := false
        radio_log := s.radio_log ++
          [.setKey (s.cfg.key16 s.active_key_byte), .setFreq (s.cfg.freq (s.cfg.seq s.hop_sequence_id 0))]
        response_log := s.response_log ++ [⟨if s.answers.freqOk then .ok else .radioFail, .none⟩] })

/-- 45_controltask.md R212: `CFG_ROLE` writes `role` from bit 0 of the immediate and nothing else. -/
def Obligations.CfgRoleWritesRoleOnly : Prop :=
  ∀ (s : State) (imm : Byte) (operand : List Byte),
    decode (.command (0x02#8 ++ imm) operand) = .ok (.cfgRole imm) ∧
    (s.ctl_phase = .idle →
      exec (.cfgRole imm) s = .next { s with
        role := decide (imm.toNat % 2 = 1)
        response_log := s.response_log ++ [⟨.ok, .none⟩] })

/-- 41_hop_channel_key.md R133 and R136: `CFG_SEL`, encoding and whole effect: a no-op where the key byte of the selector
(the low four bits of the immediate) is the active one; otherwise both fields in one transition and one key request. -/
def Obligations.CfgSelAppliesSelectorAtomically : Prop :=
  ∀ (s : State) (imm : Byte) (operand : List Byte),
    decode (.command (0x03#8 ++ imm) operand) = .ok (.cfgSel imm) ∧
    (s.ctl_phase = .idle → ∀ kb : Byte, kb = BitVec.ofNat 8 (s.cfg.HOP_KEY_OFFSET + imm.toNat % 16) →
      (kb = s.active_key_byte →
        exec (.cfgSel imm) s = .next { s with response_log := s.response_log ++ [⟨.ok, .none⟩] }) ∧
      (kb ≠ s.active_key_byte →
        exec (.cfgSel imm) s = .next { s with
          hop_sequence_id := BitVec.ofNat 3 (imm.toNat % 8)
          active_key_byte := kb
          radio_log := s.radio_log ++ [.setKey (s.cfg.key16 kb)]
          response_log := s.response_log ++ [⟨.ok, .none⟩] }))

/-- 44_txscheduler.md R194: `CLR_GUARD`, encoding and whole effect, in either role. -/
def Obligations.ClrGuardClearsTheGuardOnly : Prop :=
  ∀ (s : State) (imm : Byte) (operand : List Byte),
    decode (.command (0x04#8 ++ imm) operand) = .ok (.clrGuard imm) ∧
    (s.ctl_phase = .idle →
      exec (.clrGuard imm) s = .next { s with
        inactivity_ticks := 0
        response_log := s.response_log ++ [⟨.ok, .none⟩] })

/-- 42_packetcodec.md R154 and R156: `SUBMIT`, encoding and its three outcomes; the length is tested first
(`last_payload` is the model's own field: log 24). -/
def Obligations.SubmitOutcomes : Prop :=
  ∀ (s : State) (imm : Byte) (payload : List Byte),
    decode (.command (0x05#8 ++ imm) payload) = .ok (.submit imm payload) ∧
    (s.ctl_phase = .idle →
      (payload.length ≠ s.cfg.N - 2 →
        exec (.submit imm payload) s = .next { s with response_log := s.response_log ++ [⟨.illegal, .none⟩] }) ∧
      (payload.length = s.cfg.N - 2 → s.tx_pending = true →
        exec (.submit imm payload) s = .next { s with response_log := s.response_log ++ [⟨.notReady, .none⟩] }) ∧
      (payload.length = s.cfg.N - 2 → s.tx_pending = false →
        exec (.submit imm payload) s = .next { s with
          tx_buf := payload ++ [(crc16 payload).extractLsb' 8 8, (crc16 payload).extractLsb' 0 8]
          tx_pending := true
          last_payload := some payload
          inactivity_ticks := 0
          response_log := s.response_log ++ [⟨.ok, .none⟩] }))

/-- 42_packetcodec.md R157: `TAKE`, encoding and its three outcomes, the one the spec calls unreachable included. -/
def Obligations.TakeOutcomes : Prop :=
  ∀ (s : State) (imm : Byte) (operand : List Byte),
    decode (.command (0x06#8 ++ imm) operand) = .ok (.take imm) ∧
    (s.ctl_phase = .idle →
      (s.rx_ready = false →
        exec (.take imm) s = .next { s with response_log := s.response_log ++ [⟨.notReady, .none⟩] }) ∧
      (s.rx_ready = true → s.cfg.verify s.rx_buf = false →
        exec (.take imm) s = .next { s with
          rx_ready := false
          response_log := s.response_log ++ [⟨.notReady, .none⟩] }) ∧
      (s.rx_ready = true → s.cfg.verify s.rx_buf = true →
        exec (.take imm) s = .next { s with
          rx_ready := false
          response_log := s.response_log ++ [⟨.ok, .payload (s.rx_buf.take (s.cfg.N - 2))⟩] }))

/-- 45_controltask.md R210: the dispatch of `STEP` on the role, with the blanked test before the transmit step. -/
def Obligations.StepDispatchesOnTheRole : Prop :=
  ∀ (s : State) (imm : Byte) (operand : List Byte),
    decode (.command (0x07#8 ++ imm) operand) = .ok (.step imm) ∧
    (s.ctl_phase = .idle →
      exec (.step imm) s =
        if s.role = true then
          if s.inactivity_ticks.toNat = s.cfg.BLANKING_TIMEOUT then
            .next { s with response_log := s.response_log ++ [⟨.blanked, .none⟩] }
          else .next (txStep s)
        else .next (rxStep s))

/-- 43_linksynchronizer.md R176: `STEP` in the receive role: a hit, a miss (below and at the cap), or the wait goes on,
each with the requests made in order (`frame_received` is the model's own field: log 23). -/
def Obligations.ReceiveStepOutcomes : Prop :=
  ∀ (s : State) (imm : Byte) (operand : List Byte),
    decode (.command (0x07#8 ++ imm) operand) = .ok (.step imm) ∧
    (s.ctl_phase = .idle → s.role = false →
      ∀ (frame : List Byte) (polled : List Request) (next : Byte),
        frame = receivedBytes s.answers →
        polled = s.radio_log ++ (if s.answers.avail then [.avail, .recv] else [.avail]) →
        next = BitVec.ofNat 8 ((s.channel_index.toNat + 1) % s.cfg.M) →
        ((s.answers.avail = true ∧ s.cfg.verify frame = true) →
          exec (.step imm) s = .next { s with
            rx_buf := frame
            rx_ready := true
            frame_received := true
            missed_hop_count := 0
            channel_index := next
            rx_countdown := s.cfg.hitLoad
            rx_expired := false
            radio_log := polled ++ [.setFreq (s.cfg.freq (s.cfg.seq s.hop_sequence_id next))]
            response_log := s.response_log ++ [⟨.ok, .none⟩] }) ∧
        (¬(s.answers.avail = true ∧ s.cfg.verify frame = true) → s.rx_expired = true → s.missed_hop_count ≠ 20 →
          exec (.step imm) s = .next { s with
            missed_hop_count := s.missed_hop_count + 1
            channel_index := next
            rx_countdown := s.cfg.hopLoad
            rx_expired := false
            radio_log := polled ++ [.setFreq (s.cfg.freq (s.cfg.seq s.hop_sequence_id next))]
            response_log := s.response_log ++ [⟨.ok, .none⟩] }) ∧
        (¬(s.answers.avail = true ∧ s.cfg.verify frame = true) → s.rx_expired = true → s.missed_hop_count = 20 →
          exec (.step imm) s = .next { s with
            channel_index := 0
            rx_countdown := s.cfg.hopLoad
            rx_expired := false
            radio_log := polled ++ [.setFreq (s.cfg.freq (s.cfg.seq s.hop_sequence_id 0))]
            response_log := s.response_log ++ [⟨.ok, .none⟩] }) ∧
        (¬(s.answers.avail = true ∧ s.cfg.verify frame = true) → s.rx_expired = false →
          exec (.step imm) s = .next { s with
            radio_log := polled
            response_log := s.response_log ++ [⟨.idle, .none⟩] }))

/-- 44_txscheduler.md R192: `STEP` in the transmit role: blanked, not due, or the fire, whose response is withheld. -/
def Obligations.TransmitStepOutcomes : Prop :=
  ∀ (s : State) (imm : Byte) (operand : List Byte), s.ctl_phase = .idle → s.role = true →
    decode (.command (0x07#8 ++ imm) operand) = .ok (.step imm) ∧
    (s.inactivity_ticks.toNat = s.cfg.BLANKING_TIMEOUT →
      exec (.step imm) s = .next { s with response_log := s.response_log ++ [⟨.blanked, .none⟩] }) ∧
    (s.inactivity_ticks.toNat ≠ s.cfg.BLANKING_TIMEOUT → s.tx_due = false →
      exec (.step imm) s = .next { s with response_log := s.response_log ++ [⟨.idle, .none⟩] }) ∧
    (s.inactivity_ticks.toNat ≠ s.cfg.BLANKING_TIMEOUT → s.tx_due = true →
      exec (.step imm) s = .next { s with
        tx_countdown := s.cfg.hopLoad
        tx_due := false
        radio_log := s.radio_log ++ [.xmit s.tx_buf s.cfg.N, .waitDone]
        ctl_phase := .txOnair })

/-- 44_txscheduler.md R193: `TX_DONE` on air, whole effect, whatever the driver answers to `set_frequency`. -/
def Obligations.TxDoneEndsTheTransmission : Prop :=
  ∀ s : State, s.ctl_phase = .txOnair →
    ∀ next : Byte, next = BitVec.ofNat 8 ((s.channel_index.toNat + 1) % s.cfg.M) →
      exec .txDone s = .next { s with
        channel_index := next
        radio_log := s.radio_log ++ [.setFreq (s.cfg.freq (s.cfg.seq s.hop_sequence_id next))]
        tx_pending := false
        ctl_phase := .idle
        response_log := s.response_log ++ [⟨.ok, .none⟩] }

/-- 45_controltask.md R214 with 30_encoding.md R97 and R98: `STATUS` answers the ten selects, zero-extended to 32 bits, and
`ILLEGAL` otherwise; it writes nothing and makes no request. -/
def Obligations.StatusReadsTheSelectedItem : Prop :=
  ∀ (s : State) (imm : Byte) (operand : List Byte),
    decode (.command (0x08#8 ++ imm) operand) = .ok (.status imm) ∧
    (s.ctl_phase = .idle →
      (∀ v : Nat,
        [ s.rx_countdown.toNat,
          s.tx_countdown.toNat,
          s.rx_expired.toNat + 2 * s.tx_due.toNat + 4 * s.rx_ready.toNat + 8 * s.tx_pending.toNat + 16 * s.role.toNat +
            32 * (decide (s.inactivity_ticks.toNat = s.cfg.BLANKING_TIMEOUT)).toNat,
          s.inactivity_ticks.toNat,
          s.hop_sequence_id.toNat,
          s.active_key_byte.toNat,
          s.channel_index.toNat,
          s.missed_hop_count.toNat,
          (s.cfg.seq s.hop_sequence_id s.channel_index).toNat,
          (s.cfg.freq (s.cfg.seq s.hop_sequence_id s.channel_index)).toNat ][imm.toNat]? = some v →
        exec (.status imm) s = .next { s with
          response_log := s.response_log ++ [⟨.ok, .value (BitVec.ofNat 32 v)⟩] }) ∧
      (10 ≤ imm.toNat →
        exec (.status imm) s = .next { s with response_log := s.response_log ++ [⟨.illegal, .none⟩] }))

/-! ### The events and the TickState port (formats E and T) -/

/-- 40_tickstate.md R110: `TICK`, whole effect, in every state, role and phase. -/
def Obligations.TickCountsAndSetsFlags : Prop :=
  ∀ s : State, exec .tick s = .next { s with
    rx_countdown := if s.rx_countdown = 0 then 0 else s.rx_countdown - 1
    rx_expired := s.rx_expired || decide (s.rx_countdown = 1)
    tx_countdown := if s.tx_countdown = 0 then 0 else s.tx_countdown - 1
    tx_due := s.tx_due || decide (s.tx_countdown = 1)
    inactivity_ticks :=
      if s.inactivity_ticks.toNat < s.cfg.BLANKING_TIMEOUT then s.inactivity_ticks + 1 else s.inactivity_ticks }

/-- 40_tickstate.md R112: `TS.PEEK f` for the five fields: the field zero-extended to 16 bits, and nothing written
(`ts_result`, the result on the port, is the model's own field: log 18; that a micro-operation can be presented by itself is
the model's choice: log 7. The same holds of the next three statements). -/
def Obligations.PeekReturnsTheField : Prop :=
  ∀ (s : State) (f : Half) (v : Nat),
    [ s.rx_countdown.toNat, s.tx_countdown.toNat, s.rx_expired.toNat, s.tx_due.toNat,
      s.inactivity_ticks.toNat ][f.toNat]? = some v →
    decode (.tickState 0 f) = .ok (.tsPeek f) ∧
    exec (.tsPeek f) s = .next { s with ts_result := some (BitVec.ofNat 16 v) }

/-- 40_tickstate.md R113, R114: arming loads the countdown and neither sets nor clears a flag. It does so for `v = 0` too
(R119). -/
def Obligations.ArmingLoadsTheCountdownOnly : Prop :=
  ∀ (s : State) (v : Half),
    decode (.tickState 1 v) = .ok (.tsArmRx v) ∧
    decode (.tickState 2 v) = .ok (.tsArmTx v) ∧
    exec (.tsArmRx v) s = .next { s with rx_countdown := v, ts_result := none } ∧
    exec (.tsArmTx v) s = .next { s with tx_countdown := v, ts_result := none }

/-- 40_tickstate.md R115, R116: the atomic read-and-clear returns the old flag, clears it, and leaves the countdown alone;
and it is the only way a flag becomes 0: the operations that clear one are the take itself and the two commands that issue
it (R121). -/
def Obligations.TakingReturnsAndClearsTheFlag : Prop :=
  (∀ (s : State) (arg : Half),
    decode (.tickState 3 arg) = .ok .tsTakeRx ∧
    decode (.tickState 4 arg) = .ok .tsTakeTx ∧
    exec .tsTakeRx s = .next { s with rx_expired := false, ts_result := some (BitVec.ofNat 16 s.rx_expired.toNat) } ∧
    exec .tsTakeTx s = .next { s with tx_due := false, ts_result := some (BitVec.ofNat 16 s.tx_due.toNat) }) ∧
  (∀ (i : Instr) (s t : State), exec i s = .next t →
    (s.rx_expired = true → t.rx_expired = false →
      i = .tsTakeRx ∨ (∃ imm, i = .start imm) ∨ (s.role = false ∧ ∃ imm, i = .step imm)) ∧
    (s.tx_due = true → t.tx_due = false →
      i = .tsTakeTx ∨ (∃ imm, i = .start imm) ∨ (s.role = true ∧ ∃ imm, i = .step imm)))

/-- 40_tickstate.md R117: `TS.GUARD_CLR`. -/
def Obligations.GuardClrWritesZero : Prop :=
  ∀ (s : State) (arg : Half),
    decode (.tickState 5 arg) = .ok .tsGuardClr ∧
    exec .tsGuardClr s = .next { s with inactivity_ticks := 0, ts_result := none }

/-- The model's choice (log 10) for what 30_encoding.md R87 and 40_tickstate.md R112 call "never issued": the TickState
codes 6 and 7 and the peek fields from 5 up stop by name. -/
def Obligations.NeverIssuedCodesStop : Prop :=
  ∀ (s : State) (f arg : Half) (code : BitVec 3),
    (6 ≤ code.toNat →
      decode (.tickState code arg) = .ok (.tsReserved code) ∧
      exec (.tsReserved code) s = .refused (.tsCodeNeverIssued code)) ∧
    (5 ≤ f.toNat →
      decode (.tickState 0 f) = .error (.peekFieldNeverIssued f) ∧
      exec (.tsPeek f) s = .refused (.peekFieldNeverIssued f))

/-- Derived from 30_encoding.md R88, R90 and 45_controltask.md R216: every radio request is appended to `radio_log` with
its arguments and nothing else happens in the block; its result is the driver's answer. That a request can be presented by
itself is the model's choice (log 7), and so is the field `q_result` (log 18). -/
def Obligations.RequestsAreLoggedWithTheirResults : Prop :=
  ∀ (s : State) (profile key frame : List Byte) (hz : Word) (level : Nat) (high : Bool),
    exec .qReset s = .next { s with radio_log := s.radio_log ++ [.reset], q_result := .none } ∧
    exec (.qConfigure profile) s = .next { s with radio_log := s.radio_log ++ [.configure profile], q_result := .none } ∧
    exec (.qSetFreq hz) s = .next { s with
      radio_log := s.radio_log ++ [.setFreq hz], q_result := .success s.answers.freqOk } ∧
    exec (.qSetPower level high) s = .next { s with
      radio_log := s.radio_log ++ [.setPower level high], q_result := .none } ∧
    exec (.qSetKey key) s = .next { s with radio_log := s.radio_log ++ [.setKey key], q_result := .none } ∧
    exec .qAvail s = .next { s with radio_log := s.radio_log ++ [.avail], q_result := .available s.answers.avail } ∧
    exec .qRecv s = .next { s with
      radio_log := s.radio_log ++ [.recv], q_result := .received (s.answers.recv.take 255) } ∧
    exec (.qXmit frame) s = .next { s with
      radio_log := s.radio_log ++ [.xmit frame frame.length], q_result := .none } ∧
    exec .qWaitDone s = .next { s with radio_log := s.radio_log ++ [.waitDone], q_result := .none }

/-! ### The step and the acceptance of inputs -/

/-- Derived from 00_scope.md R11, with the model's list of presented inputs (the model's choice: log 1, 2, 3, 16): the first
enabled input is taken, the inputs before it stay, and the step is `exec` of the decoded instruction; reset and a signal
without an instruction are said as well, and so is the case that nothing is enabled. The last clause says what is enabled:
a command in `IDLE` only (30_encoding.md R82), `TX_DONE` on air only (R92), a tick and reset always (R91, R260); the
internal port and the radio port always (the model's choice: log 7). -/
def Obligations.StepExecutesTheFirstEnabledSignal : Prop :=
  ∀ (s : State) (held later : List Input), (∀ j ∈ held, enabled s.ctl_phase j = false) →
    (∀ (sig : Signal) (a : Option Answers), s.inputs = held ++ .signal sig a :: later →
      enabled s.ctl_phase (.signal sig a) = true →
      (∀ i : Instr, decode sig = .ok i →
        step s = exec i { s with
          inputs := held ++ later
          answers := a.getD (Config.freeAnswers s.turn)
          turn := s.turn + 1 }) ∧
      (∀ e : DecodeError, decode sig = .error e → step s = .refused (.undecodable e))) ∧
    (s.inputs = held ++ .reset :: later →
      step s = .next { State.atReset s.cfg (s.turn + 1) with inputs := held ++ later }) ∧
    (s.inputs = held → step s = .next s) ∧
    (∀ (p : Phase) (a : Option Answers) (w v : Half) (operand : List Byte) (tsOp : BitVec 3) (rq : BitVec 4)
        (arg : RadioArg),
      enabled p (.signal (.command w operand) a) = decide (p = .idle) ∧
      enabled p (.signal .txDone a) = decide (p = .txOnair) ∧
      enabled p (.signal .tick a) = true ∧
      enabled p .reset = true ∧
      enabled p (.signal (.tickState tsOp v) a) = true ∧
      enabled p (.signal (.radio rq arg) a) = true)

/-- Derived from 30_encoding.md R82: on air a command is held off: the step leaves it presented, whatever else the step
takes. That `exec` answers the unchanged state there, where the rule says only that the transition is not enabled, is the
model's form (log 8). -/
def Obligations.CommandsAreHeldOffOnAir : Prop :=
  ∀ s : State, s.ctl_phase = .txOnair →
    (∀ i : Instr, i.isCommand = true → exec i s = .next s) ∧
    (∀ (w : Half) (operand : List Byte) (a : Option Answers) (rest : List Input) (t : State),
      s.inputs = .signal (.command w operand) a :: rest → step s = .next t →
      ∃ rest', t.inputs = .signal (.command w operand) a :: rest')

/-- The model's choice (log 9) for 30_encoding.md R92: in `IDLE` `TX_DONE` has no step, and the pulse stays presented. -/
def Obligations.TxDoneHasNoStepInIdle : Prop :=
  ∀ s : State, s.ctl_phase = .idle →
    exec .txDone s = .refused .txDoneInIdle ∧
    (∀ (a : Option Answers) (rest : List Input) (t : State),
      s.inputs = .signal .txDone a :: rest → step s = .next t → ∃ rest', t.inputs = .signal .txDone a :: rest')

/-- Derived from 30_encoding.md R84: which bits of the immediate are ignored. -/
def Obligations.UnusedImmediateBitsAreIgnored : Prop :=
  ∀ (s : State) (imm imm' op : Byte) (payload : List Byte),
    exec (.nop imm) s = exec (.nop imm') s ∧
    exec (.start imm) s = exec (.start imm') s ∧
    exec (.clrGuard imm) s = exec (.clrGuard imm') s ∧
    exec (.submit imm payload) s = exec (.submit imm' payload) s ∧
    exec (.take imm) s = exec (.take imm') s ∧
    exec (.step imm) s = exec (.step imm') s ∧
    exec (.reserved op imm) s = exec (.reserved op imm') s ∧
    (imm.toNat % 2 = imm'.toNat % 2 → exec (.cfgRole imm) s = exec (.cfgRole imm') s) ∧
    (imm.toNat % 16 = imm'.toNat % 16 → exec (.cfgSel imm) s = exec (.cfgSel imm') s)

/-! ### Encoding -/

/-- What the decoder gives is always well formed (30_encoding.md R83, R87, R88). -/
def Obligations.DecodedInstructionsAreWellFormed : Prop :=
  ∀ (sig : Signal) (i : Instr), decode sig = .ok i → i.wellFormed = true

/-- Decoding the encoding of any well-formed instruction gives it back, with every operand (30_encoding.md R81 to R92). -/
def Obligations.DecodeEncodeAgree : Prop :=
  ∀ i : Instr, i.wellFormed = true → decode (encode i) = .ok i

/-- The other direction for command words: every one of the 65536 words is the encoding of what it decodes to, so no two
words share a meaning and no bit is dropped (30_encoding.md R81, R83). -/
def Obligations.CommandWordsReencode : Prop :=
  ∀ (w : Half) (operand : List Byte) (i : Instr), decode (.command w operand) = .ok i →
    ∃ operand', encode i = .command w operand' ∧ (w.toNat / 256 = 5 → operand' = operand)

/-- Words written out from the tables of 30_encoding.md and the programs of 95_test_vectors.md (sanity). -/
def Obligations.SampleWordsDecode : Prop :=
  decode (.command 0x0000 []) = .ok (.nop 0x00) ∧
  decode (.command 0x0201 []) = .ok (.cfgRole 0x01) ∧
  decode (.command 0x030B []) = .ok (.cfgSel 0x0B) ∧
  decode (.command 0x0500 [1, 2, 3, 4]) = .ok (.submit 0x00 [1, 2, 3, 4]) ∧
  decode (.command 0x0809 []) = .ok (.status 0x09) ∧
  decode (.command 0xABCD []) = .ok (.reserved 0xAB 0xCD) ∧
  decode (.tickState 1 60) = .ok (.tsArmRx 60) ∧
  decode (.radio 2 (.hz 902000000)) = .ok (.qSetFreq 902000000) ∧
  decode (.radio 9 .none) = .error (.unusedRequestCode 9)

/-! ### Reset and invariants -/

/-- 10_state.md R44: the reset table, for every parameter set and every turn, so that it holds of the reset input too (the
reset clause of `StepExecutesTheFirstEnabledSignal`); and `State.reset` is one of these states, under a parameter set that
is legal and otherwise unknown (the model's choice: log 4). -/
def Obligations.ResetPutsEveryFieldAtItsValue : Prop :=
  (∀ (c : Config) (turn : Nat) (s : State), s = State.atReset c turn →
    s.cfg = c ∧
    s.rx_countdown = 0 ∧ s.tx_countdown = 0 ∧ s.rx_expired = false ∧ s.tx_due = false ∧
    s.inactivity_ticks = 0 ∧
    s.role = false ∧ s.hop_sequence_id = 0 ∧ s.active_key_byte.toNat = c.HOP_KEY_OFFSET % 256 ∧
    s.channel_index = 0 ∧ s.missed_hop_count = 0 ∧
    s.rx_buf.length = c.N ∧ s.rx_ready = false ∧
    s.tx_buf.length = c.N ∧ s.tx_pending = false ∧
    s.ctl_phase = .idle ∧ s.radio_log = []) ∧
  (∃ c : Config, c.Legal ∧ State.reset = State.atReset c 0)

/-- Derived from 70_reset_and_hazards.md R262: the reset state is quiet: ticks change nothing but the guard, which counts
them up to its ceiling. -/
def Obligations.TicksAfterResetOnlyRaiseTheGuard : Prop :=
  ∀ (c : Config) (turn n : Nat), c.Legal →
    ticks n (State.atReset c turn) =
      { State.atReset c turn with inactivity_ticks := BitVec.ofNat 16 (min n c.BLANKING_TIMEOUT) }

/-- The invariants of 10_state.md R45 hold right after reset. -/
def Obligations.ResetMeetsTheInvariants : Prop := Inv State.reset

/-- Derived from 10_state.md R45: every step keeps its invariants, from every state that meets them, whatever the
environment presents at the command port and the event inputs and whatever the radio answers. -/
def Obligations.StepKeepsTheInvariants : Prop :=
  ∀ s t : State, Inv s → step s = .next t → Inv t

/-- Derived from 00_scope.md R7: the parameters are "constant from reset onward". -/
def Obligations.ParametersNeverChange : Prop :=
  ∀ s t : State, step s = .next t → t.cfg = s.cfg

/-- 30_encoding.md R89: the block never issues `Q.RESET` (0), `Q.CONFIGURE` (1) or `Q.SET_POWER` (3): no step on inputs that
come from outside puts one into the log. -/
def Obligations.PlatformRequestsAreNeverIssued : Prop :=
  ∀ s t : State, (∀ i ∈ s.inputs, i.external = true) → step s = .next t →
    (∀ q ∈ s.radio_log, q.code ≠ 0 ∧ q.code ≠ 1 ∧ q.code ≠ 3) → ∀ q ∈ t.radio_log, q.code ≠ 0 ∧ q.code ≠ 1 ∧ q.code ≠ 3

/-- 30_encoding.md R96: every accepted command gets exactly one response, the `STEP` that fires at `TX_DONE`; the codes 5
to 14 are never given. -/
def Obligations.EveryAcceptedCommandGetsOneResponse : Prop :=
  (∀ (i : Instr) (s t : State), i.isCommand = true → s.ctl_phase = .idle → exec i s = .next t →
    (t.ctl_phase = .idle ∧ ∃ r : Response, t.response_log = s.response_log ++ [r]) ∨
    (t.ctl_phase = .txOnair ∧ t.response_log = s.response_log ∧ ∃ imm, i = .step imm)) ∧
  (∀ s t : State, exec .txDone s = .next t →
    t.ctl_phase = .idle ∧ t.response_log = s.response_log ++ [⟨.ok, .none⟩]) ∧
  (∀ c : RespCode, c.bits.toNat < 5 ∨ c.bits.toNat = 15)

/-- Derived from 60_exceptions.md R240: a command that answers `NOT_READY`, `ILLEGAL`, `IDLE` or `BLANKED` has written no
state, and only `IDLE` may leave requests. The premise is the invariant (e) of 10_state.md R45. -/
def Obligations.UnsuccessfulCommandsWriteNothing : Prop :=
  ∀ (i : Instr) (s t : State) (r : Response), i.isCommand = true → s.ctl_phase = .idle →
    (s.rx_ready = true → s.cfg.verify s.rx_buf = true) →
    exec i s = .next t → t.response_log = s.response_log ++ [r] →
    r.code = .notReady ∨ r.code = .illegal ∨ r.code = .idle ∨ r.code = .blanked →
    t = { s with radio_log := t.radio_log, response_log := s.response_log ++ [r] } ∧
    (r.code ≠ .idle → t.radio_log = s.radio_log)

/-- 10_state.md R26: the write partition. The tick decrements, sets and increments; every other transition loads, clears
and reads. -/
def Obligations.WritePartitionOfTickState : Prop :=
  (∀ s t : State, exec .tick s = .next t →
    (t.rx_countdown = s.rx_countdown ∨ t.rx_countdown.toNat + 1 = s.rx_countdown.toNat) ∧
    (t.tx_countdown = s.tx_countdown ∨ t.tx_countdown.toNat + 1 = s.tx_countdown.toNat) ∧
    (s.rx_expired = true → t.rx_expired = true) ∧ (s.tx_due = true → t.tx_due = true) ∧
    (t.inactivity_ticks = s.inactivity_ticks ∨ t.inactivity_ticks = s.inactivity_ticks + 1)) ∧
  (∀ (i : Instr) (s t : State), i.isTransition = true → i ≠ .tick → exec i s = .next t →
    (t.rx_countdown = s.rx_countdown ∨ t.rx_countdown = s.cfg.hopLoad ∨ t.rx_countdown = s.cfg.hitLoad) ∧
    (t.tx_countdown = s.tx_countdown ∨ t.tx_countdown = s.cfg.hopLoad) ∧
    (t.rx_expired = true → s.rx_expired = true) ∧ (t.tx_due = true → s.tx_due = true) ∧
    (t.inactivity_ticks = s.inactivity_ticks ∨ t.inactivity_ticks = 0))

/-- Derived from the writers named in 10_state.md R27 to R40: which transition may change which field. The last lines are
about the model's own fields: the observations `frame_received` (log 23) and `last_payload` (log 24), the results of the
ports presented by themselves (log 18), the inputs (log 1), the radio's answers and the turn (log 3). -/
def Obligations.EveryFieldHasItsWriters : Prop :=
  ∀ (i : Instr) (s t : State), i.isTransition = true → exec i s = .next t →
    (t.role ≠ s.role → ∃ imm, i = .cfgRole imm) ∧
    (t.hop_sequence_id ≠ s.hop_sequence_id → ∃ imm, i = .cfgSel imm) ∧
    (t.active_key_byte ≠ s.active_key_byte → ∃ imm, i = .cfgSel imm) ∧
    (t.channel_index ≠ s.channel_index →
      (s.role = false ∧ ∃ imm, i = .step imm) ∨ (∃ imm, i = .start imm) ∨ i = .txDone) ∧
    (t.missed_hop_count ≠ s.missed_hop_count → (s.role = false ∧ ∃ imm, i = .step imm) ∨ ∃ imm, i = .start imm) ∧
    (t.rx_buf ≠ s.rx_buf → s.role = false ∧ ∃ imm, i = .step imm) ∧
    (t.rx_ready ≠ s.rx_ready →
      (s.rx_ready = false ∧ s.role = false ∧ ∃ imm, i = .step imm) ∨ (s.rx_ready = true ∧ ∃ imm, i = .take imm)) ∧
    (t.tx_buf ≠ s.tx_buf → ∃ imm payload, i = .submit imm payload) ∧
    (t.tx_pending ≠ s.tx_pending →
      (s.tx_pending = false ∧ ∃ imm payload, i = .submit imm payload) ∨ (s.tx_pending = true ∧ i = .txDone)) ∧
    (t.ctl_phase ≠ s.ctl_phase →
      (s.ctl_phase = .idle ∧ s.role = true ∧ ∃ imm, i = .step imm) ∨ (s.ctl_phase = .txOnair ∧ i = .txDone)) ∧
    t.cfg = s.cfg ∧
    (t.frame_received ≠ s.frame_received → s.role = false ∧ ∃ imm, i = .step imm) ∧
    (t.last_payload ≠ s.last_payload → ∃ imm payload, i = .submit imm payload ∧ t.last_payload = some payload) ∧
    t.ts_result = s.ts_result ∧ t.q_result = s.q_result ∧ t.inputs = s.inputs ∧ t.answers = s.answers ∧ t.turn = s.turn

/-- Derived from 45_controltask.md R217: the requests of every transition are exactly those the table lists for it, in
order, and none where it lists none or the command is held off; nothing is ever taken away from `radio_log`. -/
def Obligations.RequestSequencesAreTheListedOnes : Prop :=
  ∀ (i : Instr) (s t : State), i.isTransition = true → exec i s = .next t →
    ∃ made : List Request, t.radio_log = s.radio_log ++ made ∧ made.map Request.code = requestCodes i s

/-! ### The combinational functions -/

/-- Derived from 42_packetcodec.md R151: the bit-at-a-time form equals the form of R150 on every input. -/
def Obligations.CrcFormsAgree : Prop :=
  ∀ bytes : List Byte, crc16Bitwise bytes = crc16 bytes

/-- Derived from 42_packetcodec.md R155 (a): for all payloads of length `N-2`, the encoded frame has `N` bytes and
verifies. -/
def Obligations.EncodedFramesVerify : Prop :=
  ∀ (c : Config) (payload : List Byte), c.Legal → payload.length = c.N - 2 →
    (encodeFrame payload).length = c.N ∧ c.verify (encodeFrame payload) = true

/-- Derived from 42_packetcodec.md R155 (b): flipping any single bit of an encoded frame makes it fail. The spec proves it
for one frame only and calls the general fact general knowledge. -/
def Obligations.SingleBitErrorsAreDetected : Prop :=
  ∀ (c : Config) (payload : List Byte) (i k : Nat), c.Legal → payload.length = c.N - 2 → i < c.N → k < 8 →
    c.verify ((encodeFrame payload).modify i (fun b => b ^^^ (1#8 <<< k))) = false

/-- Derived from 41_hop_channel_key.md R134: the properties of `SELECT`. -/
def Obligations.SelectorProperties : Prop :=
  ∀ (c : Config) (sel sel' : Byte),
    (Config.selectId sel).toNat = sel.toNat % 8 ∧
    Config.selectId (sel ^^^ 0x08) = Config.selectId sel ∧
    c.selectKey (sel ^^^ 0x08) ≠ c.selectKey sel ∧
    (c.selectKey (sel ^^^ 0x08) = c.selectKey sel + 8 ∨ c.selectKey sel = c.selectKey (sel ^^^ 0x08) + 8) ∧
    Config.selectId (sel ||| 0xF0) = Config.selectId sel ∧
    c.selectKey (sel ||| 0xF0) = c.selectKey sel ∧
    (c.selectKey sel = c.selectKey sel' ↔ sel.toNat % 16 = sel'.toNat % 16)

/-- 20_memory.md R51: under a legal table every sequence visits every channel exactly once
per cycle. -/
def Obligations.EverySequenceVisitsEveryChannelOnce : Prop :=
  ∀ (c : Config) (id : BitVec 3), c.Legal →
    (∀ slot : Byte, slot.toNat < c.M → (c.seq id slot).toNat < c.M) ∧
    (∀ ch : Byte, ch.toNat < c.M → ∃! slot : Byte, slot.toNat < c.M ∧ c.seq id slot = ch)

/-- 20_memory.md R52: the linear ROM holds the entry of `(id, slot)` at `id * M + slot`. -/
def Obligations.LinearRomHoldsTheTable : Prop :=
  ∀ (c : Config) (id slot : Nat), c.Legal → id < 8 → slot < c.M →
    c.romLinear.length = 8 * c.M ∧ c.romAddr id slot < 8 * c.M ∧
    c.romLinear[c.romAddr id slot]? = some (c.rom id slot)

/-- 41_hop_channel_key.md R131: under a legal parameter set the multiply-add never wraps. -/
def Obligations.FrequenciesNeverWrap : Prop :=
  ∀ (c : Config) (ch : Byte), c.Legal → ch.toNat < c.M →
    (c.freq ch).toNat = c.BASE_FREQUENCY + ch.toNat * c.CHANNEL_SPACING

/-- 00_scope.md R8: the tick constants at the two tick durations, and that a countdown holds them whole. -/
def Obligations.TickConstants : Prop :=
  Config.hopPeriod = 50 ∧
  ∀ c : Config, c.Legal →
    c.hopTicks = 50 / c.TICK_UNITS ∧ c.hitTicks = 12 * c.hopTicks / 10 ∧
    (c.TICK_UNITS = 1 → c.hopTicks = 50 ∧ c.hitTicks = 60) ∧
    (c.TICK_UNITS = 2 → c.hopTicks = 25 ∧ c.hitTicks = 30) ∧
    c.hopLoad.toNat = c.hopTicks ∧ c.hitLoad.toNat = c.hitTicks

/-- 41_hop_channel_key.md R135: `KEY16`. -/
def Obligations.KeyByteStandsAtItsPosition : Prop :=
  ∀ (c : Config) (kb : Byte), c.Legal →
    (c.key16 kb).length = 16 ∧
    ∀ i : Nat, i < 16 → (c.key16 kb)[i]? = if i = c.KEY_POS then some kb else c.KEY_TEMPLATE[i]?

/-! ### Behaviours over several transitions -/

/-- Derived from 40_tickstate.md R120: the timing law of a countdown: after arming with `v`, exactly the `v`-th tick sets
the flag. -/
def Obligations.CountdownTimingLaw : Prop :=
  (∀ s : State, exec .tick s = .next (ticks 1 s)) ∧
  ∀ (s : State) (v : Half), v ≠ 0 →
    (∀ k : Nat, k < v.toNat →
      (ticks k (tsArmRx v s)).rx_expired = s.rx_expired ∧ (ticks k (tsArmRx v s)).rx_countdown.toNat = v.toNat - k ∧
      (ticks k (tsArmTx v s)).tx_due = s.tx_due ∧ (ticks k (tsArmTx v s)).tx_countdown.toNat = v.toNat - k) ∧
    (ticks v.toNat (tsArmRx v s)).rx_expired = true ∧ (ticks v.toNat (tsArmRx v s)).rx_countdown = 0 ∧
    (ticks v.toNat (tsArmTx v s)).tx_due = true ∧ (ticks v.toNat (tsArmTx v s)).tx_countdown = 0

/-- Derived from 43_linksynchronizer.md R178 (b): from a counter at 0, the countdown running or its expiry still to be
taken, the k-th miss in a row counts k and advances for k up to 20; the 21st and every later miss leave the counter at
20 and force slot 0. Invalid frames count as no frame. -/
def Obligations.MissedHopsParkTheReceiver : Prop :=
  ∀ (s : State) (polls : List Answers), s.cfg.Legal → s.ctl_phase = .idle → s.role = false →
    s.channel_index.toNat < s.cfg.M → s.missed_hop_count = 0 →
    (s.rx_countdown ≠ 0 ∨ s.rx_expired = true) →
    (∀ a ∈ polls, NoValidFrame s.cfg a) →
    (polls.length ≤ 20 →
      (expireAndSteps polls s).missed_hop_count.toNat = polls.length ∧
      (expireAndSteps polls s).channel_index.toNat = (s.channel_index.toNat + polls.length) % s.cfg.M) ∧
    (20 < polls.length →
      (expireAndSteps polls s).missed_hop_count.toNat = 20 ∧ (expireAndSteps polls s).channel_index = 0)

/-- Derived from 43_linksynchronizer.md R177: the wait is bounded: once the countdown is armed, or has expired, the
`STEP` after that many ticks or more answers `OK`, whatever the radio answers. -/
def Obligations.TheReceiveWaitIsBounded : Prop :=
  ∀ (s : State) (a : Answers) (imm : Byte) (n : Nat), s.ctl_phase = .idle → s.role = false →
    (s.rx_countdown ≠ 0 ∨ s.rx_expired = true) → s.rx_countdown.toNat ≤ n →
    ∃ t, exec (.step imm) { ticks n s with answers := a } = .next t ∧ lastCode t = some .ok ∧ t.rx_expired = false ∧
      (t.rx_countdown = s.cfg.hopLoad ∨ t.rx_countdown = s.cfg.hitLoad)

/-- Derived from 44_txscheduler.md R195: `BLANKING_TIMEOUT` ticks without a payload silence the transmitter, which then
writes nothing and asks the radio nothing; an accepted payload lets a due transmission fire at once, with that payload. -/
def Obligations.BlankingSilencesUntilAPayload : Prop :=
  ∀ (s : State) (a : Answers) (imm : Byte) (n : Nat), s.cfg.Legal → s.ctl_phase = .idle → s.role = true →
    s.inactivity_ticks.toNat ≤ s.cfg.BLANKING_TIMEOUT → s.cfg.BLANKING_TIMEOUT ≤ n →
    perform (.step imm) a (ticks n s) =
      { ticks n s with answers := a, response_log := s.response_log ++ [⟨.blanked, .none⟩] } ∧
    (∀ payload : List Byte, payload.length = s.cfg.N - 2 → s.tx_pending = false → (ticks n s).tx_due = true →
      (perform (.step imm) a (perform (.submit imm payload) a (ticks n s))).ctl_phase = .txOnair ∧
      (perform (.step imm) a (perform (.submit imm payload) a (ticks n s))).radio_log =
        s.radio_log ++ [.xmit (encodeFrame payload) s.cfg.N, .waitDone])

/-- Derived from 44_txscheduler.md R192 and R193: the transmit period runs from fire to fire, the on-air time inside it:
whenever `TX_DONE` comes, the transmission is due again exactly `HOP_TICKS` ticks after the fire. -/
def Obligations.TransmitPeriodRunsFromFireToFire : Prop :=
  ∀ (s : State) (a : Answers) (imm : Byte) (air rest : Nat), s.cfg.Legal → s.ctl_phase = .idle → s.role = true →
    s.blanked = false → s.tx_due = true →
    let done := perform .txDone a (ticks air (perform (.step imm) a s))
    done.ctl_phase = .idle ∧
    (air + rest < s.cfg.hopTicks → (ticks rest done).tx_due = false) ∧
    (s.cfg.hopTicks ≤ air + rest → (ticks rest done).tx_due = true)

/-- Derived from 60_exceptions.md R239 (7): `TX_DONE` and a tick in one instant give the same state in either order. -/
def Obligations.TxDoneAndTickCommute : Prop :=
  ∀ s : State, s.ctl_phase = .txOnair →
    ∃ done ticked both : State,
      exec .txDone s = .next done ∧ exec .tick done = .next both ∧
      exec .tick s = .next ticked ∧ exec .txDone ticked = .next both

/-- 40_tickstate.md R118: a micro-operation and a tick in one cycle give the micro-operation first, the tick second; a set
beats a simultaneous clear. -/
def Obligations.CollisionsKeepEveryExpiry : Prop :=
  ∀ (s : State) (v : Half), s.cfg.Legal → v ≠ 0 →
    (withTick (tsArmRx v) s).rx_countdown = v - 1 ∧
    (withTick (tsArmRx v) s).rx_expired = (s.rx_expired || decide (v = 1)) ∧
    (withTick (tsArmTx v) s).tx_countdown = v - 1 ∧
    (withTick (tsArmTx v) s).tx_due = (s.tx_due || decide (v = 1)) ∧
    (tsTakeRx s).1 = s.rx_expired ∧
    (withTick (fun t => (tsTakeRx t).2) s).rx_expired = decide (s.rx_countdown = 1) ∧
    (tsTakeTx s).1 = s.tx_due ∧
    (withTick (fun t => (tsTakeTx t).2) s).tx_due = decide (s.tx_countdown = 1) ∧
    (withTick tsGuardClr s).inactivity_ticks = 1 ∧
    (∀ (f : Half) (t : State), exec (.tsPeek f) s = .next t → (withTick id t).ts_result = peekField f s)

/-- Derived from 45_controltask.md R213 and 60_exceptions.md R245: `START` puts a transmitter and a receiver of one
configuration in step, from any idle states of theirs. -/
def Obligations.StartPutsTwoStationsInStep : Prop :=
  ∀ (a b : State) (da db : Answers), a.cfg.Legal → b.cfg = a.cfg → a.role = true → b.role = false →
    a.ctl_phase = .idle → b.ctl_phase = .idle → b.hop_sequence_id = a.hop_sequence_id → a.tx_pending = false →
    InStep (perform (.start 0) da a) (perform (.start 0) db b)

/-- Derived from the end-to-end property of the document (95_test_vectors.md S7, P5; 60_exceptions.md R245): two stations
in step stay in step over any number of hop cycles, hop through the same slots, and every payload is delivered once and in
order. -/
def Obligations.StationsInStepStayInStep : Prop :=
  ∀ (a b : State) (da db : Answers) (payloads : List (List Byte)), InStep a b →
    (∀ p ∈ payloads, p.length = a.cfg.N - 2) →
    let ab := linkCycles da db payloads (a, b)
    InStep ab.1 ab.2 ∧
    ab.1.channel_index.toNat = (a.channel_index.toNat + payloads.length) % a.cfg.M ∧
    ab.2.response_log = b.response_log ++ payloads.flatMap (fun p => [⟨.ok, .none⟩, ⟨.ok, .payload p⟩])

/-! ### Acceptance at the head of the inputs, labels, observations -/

/-- Derived from 30_encoding.md R82, R91, R92 and 70_reset_and_hazards.md R260: a command presented first is executed in
`IDLE`, a tick presented first in either phase, `TX_DONE` presented first on air, and reset presented first always. The list
of inputs, the answers it carries and the turn are the model's choice (log 1, 3, 16). -/
def Obligations.InputsAtTheHeadAreTaken : Prop :=
  ∀ (s taken : State) (a : Option Answers) (rest : List Input),
    taken = { s with inputs := rest, answers := a.getD (Config.freeAnswers s.turn), turn := s.turn + 1 } →
    (∀ (w : Half) (operand : List Byte), s.inputs = .signal (.command w operand) a :: rest → s.ctl_phase = .idle →
      ∃ i : Instr, i.isCommand = true ∧ decode (.command w operand) = .ok i ∧ step s = exec i taken) ∧
    (s.inputs = .signal .tick a :: rest → step s = exec .tick taken) ∧
    (s.inputs = .signal .txDone a :: rest → s.ctl_phase = .txOnair → step s = exec .txDone taken) ∧
    (s.inputs = .reset :: rest → step s = .next { State.atReset s.cfg (s.turn + 1) with inputs := rest })

/-- Derived from 10_state.md R43: the labels of the receive machine. Before the first frame `Listening` holds and the
receiver is not called locked; after it exactly one label holds, the one of the count's range; the label shown always
holds. Which label is shown where two hold is the model's choice (log 23). -/
def Obligations.ReceiveLabelsFollowTheCountAndTheFirstFrame : Prop :=
  ∀ s : State, s.missed_hop_count.toNat ≤ 20 →
    (s.hasLabel .locked = true ↔ s.missed_hop_count = 0) ∧
    (s.hasLabel .listening = true ↔
      (1 ≤ s.missed_hop_count.toNat ∧ s.missed_hop_count.toNat ≤ 19) ∨ s.frame_received = false) ∧
    (s.hasLabel .resyncing = true ↔ s.missed_hop_count = 20) ∧
    s.hasLabel s.receiveLabel = true ∧
    (s.frame_received = false → s.receiveLabel ≠ .locked) ∧
    (s.frame_received = true → ∀ l : ReceiveLabel, s.hasLabel l = true → l = s.receiveLabel)

/-- Derived from 10_state.md R41 and R43 and the model's choices (log 1, 3, 18, 23, 24): what is only written down is never
read. From two states that differ in the observations alone, every instruction reaches states that differ in them alone. -/
def Obligations.ObservationsAreNeverRead : Prop :=
  ∀ (i : Instr) (s s' t : State),
    s' = { s with
      radio_log := s'.radio_log, response_log := s'.response_log, frame_received := s'.frame_received
      last_payload := s'.last_payload, ts_result := s'.ts_result, q_result := s'.q_result
      inputs := s'.inputs, turn := s'.turn } →
    exec i s = .next t →
    ∃ t' : State, exec i s' = .next t' ∧
      t' = { t with
        radio_log := t'.radio_log, response_log := t'.response_log, frame_received := t'.frame_received
        last_payload := t'.last_payload, ts_result := t'.ts_result, q_result := t'.q_result
        inputs := t'.inputs, turn := t'.turn }
end

