-- ==== Sys2Proof/Laws/Params.lean ====
section
/-! SUPPORT. Lemmas about the parameters (00_scope.md R7 to R9) and the functions of them. -/

namespace Sys2Proof

namespace Config

/-- The parameter set of the chip at hand is legal, whatever it is. -/
theorem straps_legal : straps.Legal := by
  unfold straps
  split
  · assumption
  · decide

/-- The two tick durations the document allows give 50 and 60, or 25 and 30 (R8). -/
theorem hopTicks_cases {c : Config} (h : c.Legal) :
    (c.hopTicks = 50 ∧ c.hitTicks = 60) ∨ (c.hopTicks = 25 ∧ c.hitTicks = 30) := by
  obtain ⟨-, -, -, ht | ht, -⟩ := h <;> simp [hopTicks, hitTicks, hopPeriod, TIME_BASE, HOP_RATE, ht]

theorem hopLoad_toNat {c : Config} (h : c.Legal) : c.hopLoad.toNat = c.hopTicks := by
  obtain ⟨h, -⟩ | ⟨h, -⟩ := hopTicks_cases h <;> simp [hopLoad, h]

theorem hitLoad_toNat {c : Config} (h : c.Legal) : c.hitLoad.toNat = c.hitTicks := by
  obtain ⟨-, h⟩ | ⟨-, h⟩ := hopTicks_cases h <;> simp [hitLoad, h]

theorem hopTicks_le_hitTicks {c : Config} (h : c.Legal) : c.hopTicks ≤ c.hitTicks := by
  obtain ⟨h₁, h₂⟩ | ⟨h₁, h₂⟩ := hopTicks_cases h <;> omega

theorem hopTicks_pos {c : Config} (h : c.Legal) : 0 < c.hopTicks := by
  obtain ⟨h₁, -⟩ | ⟨h₁, -⟩ := hopTicks_cases h <;> omega

/-- The slot after a slot is a slot (R173), and its number is the sum mod `M`. -/
theorem nextSlot_toNat {c : Config} (h : c.Legal) (slot : Byte) :
    (c.nextSlot slot).toNat = (slot.toNat + 1) % c.M := by
  obtain ⟨-, ⟨hM, hM'⟩, -⟩ := h
  have := Nat.mod_lt (slot.toNat + 1) hM
  simp only [nextSlot, BitVec.toNat_ofNat]
  omega

theorem nextSlot_lt {c : Config} (h : c.Legal) (slot : Byte) : (c.nextSlot slot).toNat < c.M := by
  rw [nextSlot_toNat h]
  exact Nat.mod_lt _ h.2.1.1

@[simp] theorem rxBufAtReset_length (c : Config) (turn : Nat) : (c.rxBufAtReset turn).length = c.N := by
  simp [rxBufAtReset]

@[simp] theorem txBufAtReset_length (c : Config) (turn : Nat) : (c.txBufAtReset turn).length = c.N := by
  simp [txBufAtReset]

/-- A frame that verifies has the frame length (R59). -/
theorem length_of_verify {c : Config} {frame : List Byte} (h : c.verify frame = true) : frame.length = c.N := by
  simp [verify] at h
  exact h.1

/-- An entry of a legal HopTable that is read inside the index ranges is the table's (R50). -/
theorem rom_eq_getElem {c : Config} {id slot : Nat} (hid : id < c.HOP_ROM.length)
    (hslot : slot < (c.HOP_ROM[id]).length) : c.rom id slot = (c.HOP_ROM[id])[slot] := by
  simp [rom, hid, hslot]

end Config

/-- An encoded payload is two bytes longer (R154). -/
@[simp] theorem encodeFrame_length (payload : List Byte) : (encodeFrame payload).length = payload.length + 2 := by
  simp [encodeFrame]

end Sys2Proof
end

