-- ==== Sys2Proof/Laws/State.lean ====
section
/-! SUPPORT. One lemma per field per shared operation of Machine/Ops.lean, so that no later proof unfolds a record update. -/

namespace Sys2Proof.Machine

open Sys2Proof

/-! ### respond -/

@[simp] theorem respond_cfg (code : RespCode) (data : RespData) (s : State) : (respond code data s).cfg = s.cfg := rfl
@[simp] theorem respond_rx_countdown (code : RespCode) (data : RespData) (s : State) : (respond code data s).rx_countdown = s.rx_countdown := rfl
@[simp] theorem respond_tx_countdown (code : RespCode) (data : RespData) (s : State) : (respond code data s).tx_countdown = s.tx_countdown := rfl
@[simp] theorem respond_rx_expired (code : RespCode) (data : RespData) (s : State) : (respond code data s).rx_expired = s.rx_expired := rfl
@[simp] theorem respond_tx_due (code : RespCode) (data : RespData) (s : State) : (respond code data s).tx_due = s.tx_due := rfl
@[simp] theorem respond_inactivity_ticks (code : RespCode) (data : RespData) (s : State) : (respond code data s).inactivity_ticks = s.inactivity_ticks := rfl
@[simp] theorem respond_role (code : RespCode) (data : RespData) (s : State) : (respond code data s).role = s.role := rfl
@[simp] theorem respond_hop_sequence_id (code : RespCode) (data : RespData) (s : State) : (respond code data s).hop_sequence_id = s.hop_sequence_id := rfl
@[simp] theorem respond_active_key_byte (code : RespCode) (data : RespData) (s : State) : (respond code data s).active_key_byte = s.active_key_byte := rfl
@[simp] theorem respond_channel_index (code : RespCode) (data : RespData) (s : State) : (respond code data s).channel_index = s.channel_index := rfl
@[simp] theorem respond_missed_hop_count (code : RespCode) (data : RespData) (s : State) : (respond code data s).missed_hop_count = s.missed_hop_count := rfl
@[simp] theorem respond_rx_buf (code : RespCode) (data : RespData) (s : State) : (respond code data s).rx_buf = s.rx_buf := rfl
@[simp] theorem respond_rx_ready (code : RespCode) (data : RespData) (s : State) : (respond code data s).rx_ready = s.rx_ready := rfl
@[simp] theorem respond_tx_buf (code : RespCode) (data : RespData) (s : State) : (respond code data s).tx_buf = s.tx_buf := rfl
@[simp] theorem respond_tx_pending (code : RespCode) (data : RespData) (s : State) : (respond code data s).tx_pending = s.tx_pending := rfl
@[simp] theorem respond_ctl_phase (code : RespCode) (data : RespData) (s : State) : (respond code data s).ctl_phase = s.ctl_phase := rfl
@[simp] theorem respond_radio_log (code : RespCode) (data : RespData) (s : State) : (respond code data s).radio_log = s.radio_log := rfl
@[simp] theorem respond_response_log (code : RespCode) (data : RespData) (s : State) : (respond code data s).response_log = s.response_log ++ [⟨code, data⟩] := rfl
@[simp] theorem respond_frame_received (code : RespCode) (data : RespData) (s : State) : (respond code data s).frame_received = s.frame_received := rfl
@[simp] theorem respond_last_payload (code : RespCode) (data : RespData) (s : State) : (respond code data s).last_payload = s.last_payload := rfl
@[simp] theorem respond_ts_result (code : RespCode) (data : RespData) (s : State) : (respond code data s).ts_result = s.ts_result := rfl
@[simp] theorem respond_q_result (code : RespCode) (data : RespData) (s : State) : (respond code data s).q_result = s.q_result := rfl
@[simp] theorem respond_inputs (code : RespCode) (data : RespData) (s : State) : (respond code data s).inputs = s.inputs := rfl
@[simp] theorem respond_answers (code : RespCode) (data : RespData) (s : State) : (respond code data s).answers = s.answers := rfl
@[simp] theorem respond_turn (code : RespCode) (data : RespData) (s : State) : (respond code data s).turn = s.turn := rfl

/-! ### request -/

@[simp] theorem request_cfg (q : Request) (s : State) : (request q s).cfg = s.cfg := rfl
@[simp] theorem request_rx_countdown (q : Request) (s : State) : (request q s).rx_countdown = s.rx_countdown := rfl
@[simp] theorem request_tx_countdown (q : Request) (s : State) : (request q s).tx_countdown = s.tx_countdown := rfl
@[simp] theorem request_rx_expired (q : Request) (s : State) : (request q s).rx_expired = s.rx_expired := rfl
@[simp] theorem request_tx_due (q : Request) (s : State) : (request q s).tx_due = s.tx_due := rfl
@[simp] theorem request_inactivity_ticks (q : Request) (s : State) : (request q s).inactivity_ticks = s.inactivity_ticks := rfl
@[simp] theorem request_role (q : Request) (s : State) : (request q s).role = s.role := rfl
@[simp] theorem request_hop_sequence_id (q : Request) (s : State) : (request q s).hop_sequence_id = s.hop_sequence_id := rfl
@[simp] theorem request_active_key_byte (q : Request) (s : State) : (request q s).active_key_byte = s.active_key_byte := rfl
@[simp] theorem request_channel_index (q : Request) (s : State) : (request q s).channel_index = s.channel_index := rfl
@[simp] theorem request_missed_hop_count (q : Request) (s : State) : (request q s).missed_hop_count = s.missed_hop_count := rfl
@[simp] theorem request_rx_buf (q : Request) (s : State) : (request q s).rx_buf = s.rx_buf := rfl
@[simp] theorem request_rx_ready (q : Request) (s : State) : (request q s).rx_ready = s.rx_ready := rfl
@[simp] theorem request_tx_buf (q : Request) (s : State) : (request q s).tx_buf = s.tx_buf := rfl
@[simp] theorem request_tx_pending (q : Request) (s : State) : (request q s).tx_pending = s.tx_pending := rfl
@[simp] theorem request_ctl_phase (q : Request) (s : State) : (request q s).ctl_phase = s.ctl_phase := rfl
@[simp] theorem request_radio_log (q : Request) (s : State) : (request q s).radio_log = s.radio_log ++ [q] := rfl
@[simp] theorem request_response_log (q : Request) (s : State) : (request q s).response_log = s.response_log := rfl
@[simp] theorem request_frame_received (q : Request) (s : State) : (request q s).frame_received = s.frame_received := rfl
@[simp] theorem request_last_payload (q : Request) (s : State) : (request q s).last_payload = s.last_payload := rfl
@[simp] theorem request_ts_result (q : Request) (s : State) : (request q s).ts_result = s.ts_result := rfl
@[simp] theorem request_q_result (q : Request) (s : State) : (request q s).q_result = s.q_result := rfl
@[simp] theorem request_inputs (q : Request) (s : State) : (request q s).inputs = s.inputs := rfl
@[simp] theorem request_answers (q : Request) (s : State) : (request q s).answers = s.answers := rfl
@[simp] theorem request_turn (q : Request) (s : State) : (request q s).turn = s.turn := rfl

/-! ### retune -/

@[simp] theorem retune_cfg (s : State) : (retune s).cfg = s.cfg := rfl
@[simp] theorem retune_rx_countdown (s : State) : (retune s).rx_countdown = s.rx_countdown := rfl
@[simp] theorem retune_tx_countdown (s : State) : (retune s).tx_countdown = s.tx_countdown := rfl
@[simp] theorem retune_rx_expired (s : State) : (retune s).rx_expired = s.rx_expired := rfl
@[simp] theorem retune_tx_due (s : State) : (retune s).tx_due = s.tx_due := rfl
@[simp] theorem retune_inactivity_ticks (s : State) : (retune s).inactivity_ticks = s.inactivity_ticks := rfl
@[simp] theorem retune_role (s : State) : (retune s).role = s.role := rfl
@[simp] theorem retune_hop_sequence_id (s : State) : (retune s).hop_sequence_id = s.hop_sequence_id := rfl
@[simp] theorem retune_active_key_byte (s : State) : (retune s).active_key_byte = s.active_key_byte := rfl
@[simp] theorem retune_channel_index (s : State) : (retune s).channel_index = s.channel_index := rfl
@[simp] theorem retune_missed_hop_count (s : State) : (retune s).missed_hop_count = s.missed_hop_count := rfl
@[simp] theorem retune_rx_buf (s : State) : (retune s).rx_buf = s.rx_buf := rfl
@[simp] theorem retune_rx_ready (s : State) : (retune s).rx_ready = s.rx_ready := rfl
@[simp] theorem retune_tx_buf (s : State) : (retune s).tx_buf = s.tx_buf := rfl
@[simp] theorem retune_tx_pending (s : State) : (retune s).tx_pending = s.tx_pending := rfl
@[simp] theorem retune_ctl_phase (s : State) : (retune s).ctl_phase = s.ctl_phase := rfl
@[simp] theorem retune_radio_log (s : State) : (retune s).radio_log = s.radio_log ++ [.setFreq s.curFreq] := rfl
@[simp] theorem retune_response_log (s : State) : (retune s).response_log = s.response_log := rfl
@[simp] theorem retune_frame_received (s : State) : (retune s).frame_received = s.frame_received := rfl
@[simp] theorem retune_last_payload (s : State) : (retune s).last_payload = s.last_payload := rfl
@[simp] theorem retune_ts_result (s : State) : (retune s).ts_result = s.ts_result := rfl
@[simp] theorem retune_q_result (s : State) : (retune s).q_result = s.q_result := rfl
@[simp] theorem retune_inputs (s : State) : (retune s).inputs = s.inputs := rfl
@[simp] theorem retune_answers (s : State) : (retune s).answers = s.answers := rfl
@[simp] theorem retune_turn (s : State) : (retune s).turn = s.turn := rfl

/-! ### tsArmRx -/

@[simp] theorem tsArmRx_cfg (v : Half) (s : State) : (tsArmRx v s).cfg = s.cfg := rfl
@[simp] theorem tsArmRx_rx_countdown (v : Half) (s : State) : (tsArmRx v s).rx_countdown = v := rfl
@[simp] theorem tsArmRx_tx_countdown (v : Half) (s : State) : (tsArmRx v s).tx_countdown = s.tx_countdown := rfl
@[simp] theorem tsArmRx_rx_expired (v : Half) (s : State) : (tsArmRx v s).rx_expired = s.rx_expired := rfl
@[simp] theorem tsArmRx_tx_due (v : Half) (s : State) : (tsArmRx v s).tx_due = s.tx_due := rfl
@[simp] theorem tsArmRx_inactivity_ticks (v : Half) (s : State) : (tsArmRx v s).inactivity_ticks = s.inactivity_ticks := rfl
@[simp] theorem tsArmRx_role (v : Half) (s : State) : (tsArmRx v s).role = s.role := rfl
@[simp] theorem tsArmRx_hop_sequence_id (v : Half) (s : State) : (tsArmRx v s).hop_sequence_id = s.hop_sequence_id := rfl
@[simp] theorem tsArmRx_active_key_byte (v : Half) (s : State) : (tsArmRx v s).active_key_byte = s.active_key_byte := rfl
@[simp] theorem tsArmRx_channel_index (v : Half) (s : State) : (tsArmRx v s).channel_index = s.channel_index := rfl
@[simp] theorem tsArmRx_missed_hop_count (v : Half) (s : State) : (tsArmRx v s).missed_hop_count = s.missed_hop_count := rfl
@[simp] theorem tsArmRx_rx_buf (v : Half) (s : State) : (tsArmRx v s).rx_buf = s.rx_buf := rfl
@[simp] theorem tsArmRx_rx_ready (v : Half) (s : State) : (tsArmRx v s).rx_ready = s.rx_ready := rfl
@[simp] theorem tsArmRx_tx_buf (v : Half) (s : State) : (tsArmRx v s).tx_buf = s.tx_buf := rfl
@[simp] theorem tsArmRx_tx_pending (v : Half) (s : State) : (tsArmRx v s).tx_pending = s.tx_pending := rfl
@[simp] theorem tsArmRx_ctl_phase (v : Half) (s : State) : (tsArmRx v s).ctl_phase = s.ctl_phase := rfl
@[simp] theorem tsArmRx_radio_log (v : Half) (s : State) : (tsArmRx v s).radio_log = s.radio_log := rfl
@[simp] theorem tsArmRx_response_log (v : Half) (s : State) : (tsArmRx v s).response_log = s.response_log := rfl
@[simp] theorem tsArmRx_frame_received (v : Half) (s : State) : (tsArmRx v s).frame_received = s.frame_received := rfl
@[simp] theorem tsArmRx_last_payload (v : Half) (s : State) : (tsArmRx v s).last_payload = s.last_payload := rfl
@[simp] theorem tsArmRx_ts_result (v : Half) (s : State) : (tsArmRx v s).ts_result = s.ts_result := rfl
@[simp] theorem tsArmRx_q_result (v : Half) (s : State) : (tsArmRx v s).q_result = s.q_result := rfl
@[simp] theorem tsArmRx_inputs (v : Half) (s : State) : (tsArmRx v s).inputs = s.inputs := rfl
@[simp] theorem tsArmRx_answers (v : Half) (s : State) : (tsArmRx v s).answers = s.answers := rfl
@[simp] theorem tsArmRx_turn (v : Half) (s : State) : (tsArmRx v s).turn = s.turn := rfl

/-! ### tsArmTx -/

@[simp] theorem tsArmTx_cfg (v : Half) (s : State) : (tsArmTx v s).cfg = s.cfg := rfl
@[simp] theorem tsArmTx_rx_countdown (v : Half) (s : State) : (tsArmTx v s).rx_countdown = s.rx_countdown := rfl
@[simp] theorem tsArmTx_tx_countdown (v : Half) (s : State) : (tsArmTx v s).tx_countdown = v := rfl
@[simp] theorem tsArmTx_rx_expired (v : Half) (s : State) : (tsArmTx v s).rx_expired = s.rx_expired := rfl
@[simp] theorem tsArmTx_tx_due (v : Half) (s : State) : (tsArmTx v s).tx_due = s.tx_due := rfl
@[simp] theorem tsArmTx_inactivity_ticks (v : Half) (s : State) : (tsArmTx v s).inactivity_ticks = s.inactivity_ticks := rfl
@[simp] theorem tsArmTx_role (v : Half) (s : State) : (tsArmTx v s).role = s.role := rfl
@[simp] theorem tsArmTx_hop_sequence_id (v : Half) (s : State) : (tsArmTx v s).hop_sequence_id = s.hop_sequence_id := rfl
@[simp] theorem tsArmTx_active_key_byte (v : Half) (s : State) : (tsArmTx v s).active_key_byte = s.active_key_byte := rfl
@[simp] theorem tsArmTx_channel_index (v : Half) (s : State) : (tsArmTx v s).channel_index = s.channel_index := rfl
@[simp] theorem tsArmTx_missed_hop_count (v : Half) (s : State) : (tsArmTx v s).missed_hop_count = s.missed_hop_count := rfl
@[simp] theorem tsArmTx_rx_buf (v : Half) (s : State) : (tsArmTx v s).rx_buf = s.rx_buf := rfl
@[simp] theorem tsArmTx_rx_ready (v : Half) (s : State) : (tsArmTx v s).rx_ready = s.rx_ready := rfl
@[simp] theorem tsArmTx_tx_buf (v : Half) (s : State) : (tsArmTx v s).tx_buf = s.tx_buf := rfl
@[simp] theorem tsArmTx_tx_pending (v : Half) (s : State) : (tsArmTx v s).tx_pending = s.tx_pending := rfl
@[simp] theorem tsArmTx_ctl_phase (v : Half) (s : State) : (tsArmTx v s).ctl_phase = s.ctl_phase := rfl
@[simp] theorem tsArmTx_radio_log (v : Half) (s : State) : (tsArmTx v s).radio_log = s.radio_log := rfl
@[simp] theorem tsArmTx_response_log (v : Half) (s : State) : (tsArmTx v s).response_log = s.response_log := rfl
@[simp] theorem tsArmTx_frame_received (v : Half) (s : State) : (tsArmTx v s).frame_received = s.frame_received := rfl
@[simp] theorem tsArmTx_last_payload (v : Half) (s : State) : (tsArmTx v s).last_payload = s.last_payload := rfl
@[simp] theorem tsArmTx_ts_result (v : Half) (s : State) : (tsArmTx v s).ts_result = s.ts_result := rfl
@[simp] theorem tsArmTx_q_result (v : Half) (s : State) : (tsArmTx v s).q_result = s.q_result := rfl
@[simp] theorem tsArmTx_inputs (v : Half) (s : State) : (tsArmTx v s).inputs = s.inputs := rfl
@[simp] theorem tsArmTx_answers (v : Half) (s : State) : (tsArmTx v s).answers = s.answers := rfl
@[simp] theorem tsArmTx_turn (v : Half) (s : State) : (tsArmTx v s).turn = s.turn := rfl

/-! ### tsTakeRx -/

@[simp] theorem tsTakeRx_cfg (s : State) : (tsTakeRx s).2.cfg = s.cfg := rfl
@[simp] theorem tsTakeRx_rx_countdown (s : State) : (tsTakeRx s).2.rx_countdown = s.rx_countdown := rfl
@[simp] theorem tsTakeRx_tx_countdown (s : State) : (tsTakeRx s).2.tx_countdown = s.tx_countdown := rfl
@[simp] theorem tsTakeRx_rx_expired (s : State) : (tsTakeRx s).2.rx_expired = false := rfl
@[simp] theorem tsTakeRx_tx_due (s : State) : (tsTakeRx s).2.tx_due = s.tx_due := rfl
@[simp] theorem tsTakeRx_inactivity_ticks (s : State) : (tsTakeRx s).2.inactivity_ticks = s.inactivity_ticks := rfl
@[simp] theorem tsTakeRx_role (s : State) : (tsTakeRx s).2.role = s.role := rfl
@[simp] theorem tsTakeRx_hop_sequence_id (s : State) : (tsTakeRx s).2.hop_sequence_id = s.hop_sequence_id := rfl
@[simp] theorem tsTakeRx_active_key_byte (s : State) : (tsTakeRx s).2.active_key_byte = s.active_key_byte := rfl
@[simp] theorem tsTakeRx_channel_index (s : State) : (tsTakeRx s).2.channel_index = s.channel_index := rfl
@[simp] theorem tsTakeRx_missed_hop_count (s : State) : (tsTakeRx s).2.missed_hop_count = s.missed_hop_count := rfl
@[simp] theorem tsTakeRx_rx_buf (s : State) : (tsTakeRx s).2.rx_buf = s.rx_buf := rfl
@[simp] theorem tsTakeRx_rx_ready (s : State) : (tsTakeRx s).2.rx_ready = s.rx_ready := rfl
@[simp] theorem tsTakeRx_tx_buf (s : State) : (tsTakeRx s).2.tx_buf = s.tx_buf := rfl
@[simp] theorem tsTakeRx_tx_pending (s : State) : (tsTakeRx s).2.tx_pending = s.tx_pending := rfl
@[simp] theorem tsTakeRx_ctl_phase (s : State) : (tsTakeRx s).2.ctl_phase = s.ctl_phase := rfl
@[simp] theorem tsTakeRx_radio_log (s : State) : (tsTakeRx s).2.radio_log = s.radio_log := rfl
@[simp] theorem tsTakeRx_response_log (s : State) : (tsTakeRx s).2.response_log = s.response_log := rfl
@[simp] theorem tsTakeRx_frame_received (s : State) : (tsTakeRx s).2.frame_received = s.frame_received := rfl
@[simp] theorem tsTakeRx_last_payload (s : State) : (tsTakeRx s).2.last_payload = s.last_payload := rfl
@[simp] theorem tsTakeRx_ts_result (s : State) : (tsTakeRx s).2.ts_result = s.ts_result := rfl
@[simp] theorem tsTakeRx_q_result (s : State) : (tsTakeRx s).2.q_result = s.q_result := rfl
@[simp] theorem tsTakeRx_inputs (s : State) : (tsTakeRx s).2.inputs = s.inputs := rfl
@[simp] theorem tsTakeRx_answers (s : State) : (tsTakeRx s).2.answers = s.answers := rfl
@[simp] theorem tsTakeRx_turn (s : State) : (tsTakeRx s).2.turn = s.turn := rfl

/-! ### tsTakeTx -/

@[simp] theorem tsTakeTx_cfg (s : State) : (tsTakeTx s).2.cfg = s.cfg := rfl
@[simp] theorem tsTakeTx_rx_countdown (s : State) : (tsTakeTx s).2.rx_countdown = s.rx_countdown := rfl
@[simp] theorem tsTakeTx_tx_countdown (s : State) : (tsTakeTx s).2.tx_countdown = s.tx_countdown := rfl
@[simp] theorem tsTakeTx_rx_expired (s : State) : (tsTakeTx s).2.rx_expired = s.rx_expired := rfl
@[simp] theorem tsTakeTx_tx_due (s : State) : (tsTakeTx s).2.tx_due = false := rfl
@[simp] theorem tsTakeTx_inactivity_ticks (s : State) : (tsTakeTx s).2.inactivity_ticks = s.inactivity_ticks := rfl
@[simp] theorem tsTakeTx_role (s : State) : (tsTakeTx s).2.role = s.role := rfl
@[simp] theorem tsTakeTx_hop_sequence_id (s : State) : (tsTakeTx s).2.hop_sequence_id = s.hop_sequence_id := rfl
@[simp] theorem tsTakeTx_active_key_byte (s : State) : (tsTakeTx s).2.active_key_byte = s.active_key_byte := rfl
@[simp] theorem tsTakeTx_channel_index (s : State) : (tsTakeTx s).2.channel_index = s.channel_index := rfl
@[simp] theorem tsTakeTx_missed_hop_count (s : State) : (tsTakeTx s).2.missed_hop_count = s.missed_hop_count := rfl
@[simp] theorem tsTakeTx_rx_buf (s : State) : (tsTakeTx s).2.rx_buf = s.rx_buf := rfl
@[simp] theorem tsTakeTx_rx_ready (s : State) : (tsTakeTx s).2.rx_ready = s.rx_ready := rfl
@[simp] theorem tsTakeTx_tx_buf (s : State) : (tsTakeTx s).2.tx_buf = s.tx_buf := rfl
@[simp] theorem tsTakeTx_tx_pending (s : State) : (tsTakeTx s).2.tx_pending = s.tx_pending := rfl
@[simp] theorem tsTakeTx_ctl_phase (s : State) : (tsTakeTx s).2.ctl_phase = s.ctl_phase := rfl
@[simp] theorem tsTakeTx_radio_log (s : State) : (tsTakeTx s).2.radio_log = s.radio_log := rfl
@[simp] theorem tsTakeTx_response_log (s : State) : (tsTakeTx s).2.response_log = s.response_log := rfl
@[simp] theorem tsTakeTx_frame_received (s : State) : (tsTakeTx s).2.frame_received = s.frame_received := rfl
@[simp] theorem tsTakeTx_last_payload (s : State) : (tsTakeTx s).2.last_payload = s.last_payload := rfl
@[simp] theorem tsTakeTx_ts_result (s : State) : (tsTakeTx s).2.ts_result = s.ts_result := rfl
@[simp] theorem tsTakeTx_q_result (s : State) : (tsTakeTx s).2.q_result = s.q_result := rfl
@[simp] theorem tsTakeTx_inputs (s : State) : (tsTakeTx s).2.inputs = s.inputs := rfl
@[simp] theorem tsTakeTx_answers (s : State) : (tsTakeTx s).2.answers = s.answers := rfl
@[simp] theorem tsTakeTx_turn (s : State) : (tsTakeTx s).2.turn = s.turn := rfl

/-! ### tsGuardClr -/

@[simp] theorem tsGuardClr_cfg (s : State) : (tsGuardClr s).cfg = s.cfg := rfl
@[simp] theorem tsGuardClr_rx_countdown (s : State) : (tsGuardClr s).rx_countdown = s.rx_countdown := rfl
@[simp] theorem tsGuardClr_tx_countdown (s : State) : (tsGuardClr s).tx_countdown = s.tx_countdown := rfl
@[simp] theorem tsGuardClr_rx_expired (s : State) : (tsGuardClr s).rx_expired = s.rx_expired := rfl
@[simp] theorem tsGuardClr_tx_due (s : State) : (tsGuardClr s).tx_due = s.tx_due := rfl
@[simp] theorem tsGuardClr_inactivity_ticks (s : State) : (tsGuardClr s).inactivity_ticks = 0 := rfl
@[simp] theorem tsGuardClr_role (s : State) : (tsGuardClr s).role = s.role := rfl
@[simp] theorem tsGuardClr_hop_sequence_id (s : State) : (tsGuardClr s).hop_sequence_id = s.hop_sequence_id := rfl
@[simp] theorem tsGuardClr_active_key_byte (s : State) : (tsGuardClr s).active_key_byte = s.active_key_byte := rfl
@[simp] theorem tsGuardClr_channel_index (s : State) : (tsGuardClr s).channel_index = s.channel_index := rfl
@[simp] theorem tsGuardClr_missed_hop_count (s : State) : (tsGuardClr s).missed_hop_count = s.missed_hop_count := rfl
@[simp] theorem tsGuardClr_rx_buf (s : State) : (tsGuardClr s).rx_buf = s.rx_buf := rfl
@[simp] theorem tsGuardClr_rx_ready (s : State) : (tsGuardClr s).rx_ready = s.rx_ready := rfl
@[simp] theorem tsGuardClr_tx_buf (s : State) : (tsGuardClr s).tx_buf = s.tx_buf := rfl
@[simp] theorem tsGuardClr_tx_pending (s : State) : (tsGuardClr s).tx_pending = s.tx_pending := rfl
@[simp] theorem tsGuardClr_ctl_phase (s : State) : (tsGuardClr s).ctl_phase = s.ctl_phase := rfl
@[simp] theorem tsGuardClr_radio_log (s : State) : (tsGuardClr s).radio_log = s.radio_log := rfl
@[simp] theorem tsGuardClr_response_log (s : State) : (tsGuardClr s).response_log = s.response_log := rfl
@[simp] theorem tsGuardClr_frame_received (s : State) : (tsGuardClr s).frame_received = s.frame_received := rfl
@[simp] theorem tsGuardClr_last_payload (s : State) : (tsGuardClr s).last_payload = s.last_payload := rfl
@[simp] theorem tsGuardClr_ts_result (s : State) : (tsGuardClr s).ts_result = s.ts_result := rfl
@[simp] theorem tsGuardClr_q_result (s : State) : (tsGuardClr s).q_result = s.q_result := rfl
@[simp] theorem tsGuardClr_inputs (s : State) : (tsGuardClr s).inputs = s.inputs := rfl
@[simp] theorem tsGuardClr_answers (s : State) : (tsGuardClr s).answers = s.answers := rfl
@[simp] theorem tsGuardClr_turn (s : State) : (tsGuardClr s).turn = s.turn := rfl

/-! ### tickState -/

@[simp] theorem tickState_cfg (s : State) : (tickState s).cfg = s.cfg := rfl
@[simp] theorem tickState_rx_countdown (s : State) : (tickState s).rx_countdown = countDown s.rx_countdown := rfl
@[simp] theorem tickState_tx_countdown (s : State) : (tickState s).tx_countdown = countDown s.tx_countdown := rfl
@[simp] theorem tickState_rx_expired (s : State) : (tickState s).rx_expired = expireFlag s.rx_countdown s.rx_expired := rfl
@[simp] theorem tickState_tx_due (s : State) : (tickState s).tx_due = expireFlag s.tx_countdown s.tx_due := rfl
@[simp] theorem tickState_inactivity_ticks (s : State) : (tickState s).inactivity_ticks = guardUp s.cfg s.inactivity_ticks := rfl
@[simp] theorem tickState_role (s : State) : (tickState s).role = s.role := rfl
@[simp] theorem tickState_hop_sequence_id (s : State) : (tickState s).hop_sequence_id = s.hop_sequence_id := rfl
@[simp] theorem tickState_active_key_byte (s : State) : (tickState s).active_key_byte = s.active_key_byte := rfl
@[simp] theorem tickState_channel_index (s : State) : (tickState s).channel_index = s.channel_index := rfl
@[simp] theorem tickState_missed_hop_count (s : State) : (tickState s).missed_hop_count = s.missed_hop_count := rfl
@[simp] theorem tickState_rx_buf (s : State) : (tickState s).rx_buf = s.rx_buf := rfl
@[simp] theorem tickState_rx_ready (s : State) : (tickState s).rx_ready = s.rx_ready := rfl
@[simp] theorem tickState_tx_buf (s : State) : (tickState s).tx_buf = s.tx_buf := rfl
@[simp] theorem tickState_tx_pending (s : State) : (tickState s).tx_pending = s.tx_pending := rfl
@[simp] theorem tickState_ctl_phase (s : State) : (tickState s).ctl_phase = s.ctl_phase := rfl
@[simp] theorem tickState_radio_log (s : State) : (tickState s).radio_log = s.radio_log := rfl
@[simp] theorem tickState_response_log (s : State) : (tickState s).response_log = s.response_log := rfl
@[simp] theorem tickState_frame_received (s : State) : (tickState s).frame_received = s.frame_received := rfl
@[simp] theorem tickState_last_payload (s : State) : (tickState s).last_payload = s.last_payload := rfl
@[simp] theorem tickState_ts_result (s : State) : (tickState s).ts_result = s.ts_result := rfl
@[simp] theorem tickState_q_result (s : State) : (tickState s).q_result = s.q_result := rfl
@[simp] theorem tickState_inputs (s : State) : (tickState s).inputs = s.inputs := rfl
@[simp] theorem tickState_answers (s : State) : (tickState s).answers = s.answers := rfl
@[simp] theorem tickState_turn (s : State) : (tickState s).turn = s.turn := rfl

/-! ### advanceSlot -/

@[simp] theorem advanceSlot_cfg (s : State) : (advanceSlot s).cfg = s.cfg := rfl
@[simp] theorem advanceSlot_rx_countdown (s : State) : (advanceSlot s).rx_countdown = s.rx_countdown := rfl
@[simp] theorem advanceSlot_tx_countdown (s : State) : (advanceSlot s).tx_countdown = s.tx_countdown := rfl
@[simp] theorem advanceSlot_rx_expired (s : State) : (advanceSlot s).rx_expired = s.rx_expired := rfl
@[simp] theorem advanceSlot_tx_due (s : State) : (advanceSlot s).tx_due = s.tx_due := rfl
@[simp] theorem advanceSlot_inactivity_ticks (s : State) : (advanceSlot s).inactivity_ticks = s.inactivity_ticks := rfl
@[simp] theorem advanceSlot_role (s : State) : (advanceSlot s).role = s.role := rfl
@[simp] theorem advanceSlot_hop_sequence_id (s : State) : (advanceSlot s).hop_sequence_id = s.hop_sequence_id := rfl
@[simp] theorem advanceSlot_active_key_byte (s : State) : (advanceSlot s).active_key_byte = s.active_key_byte := rfl
@[simp] theorem advanceSlot_channel_index (s : State) : (advanceSlot s).channel_index = s.cfg.nextSlot s.channel_index := rfl
@[simp] theorem advanceSlot_missed_hop_count (s : State) : (advanceSlot s).missed_hop_count = s.missed_hop_count := rfl
@[simp] theorem advanceSlot_rx_buf (s : State) : (advanceSlot s).rx_buf = s.rx_buf := rfl
@[simp] theorem advanceSlot_rx_ready (s : State) : (advanceSlot s).rx_ready = s.rx_ready := rfl
@[simp] theorem advanceSlot_tx_buf (s : State) : (advanceSlot s).tx_buf = s.tx_buf := rfl
@[simp] theorem advanceSlot_tx_pending (s : State) : (advanceSlot s).tx_pending = s.tx_pending := rfl
@[simp] theorem advanceSlot_ctl_phase (s : State) : (advanceSlot s).ctl_phase = s.ctl_phase := rfl
@[simp] theorem advanceSlot_radio_log (s : State) : (advanceSlot s).radio_log = s.radio_log := rfl
@[simp] theorem advanceSlot_response_log (s : State) : (advanceSlot s).response_log = s.response_log := rfl
@[simp] theorem advanceSlot_frame_received (s : State) : (advanceSlot s).frame_received = s.frame_received := rfl
@[simp] theorem advanceSlot_last_payload (s : State) : (advanceSlot s).last_payload = s.last_payload := rfl
@[simp] theorem advanceSlot_ts_result (s : State) : (advanceSlot s).ts_result = s.ts_result := rfl
@[simp] theorem advanceSlot_q_result (s : State) : (advanceSlot s).q_result = s.q_result := rfl
@[simp] theorem advanceSlot_inputs (s : State) : (advanceSlot s).inputs = s.inputs := rfl
@[simp] theorem advanceSlot_answers (s : State) : (advanceSlot s).answers = s.answers := rfl
@[simp] theorem advanceSlot_turn (s : State) : (advanceSlot s).turn = s.turn := rfl

/-! ### tsReturn -/

@[simp] theorem tsReturn_cfg (r : Option Half) (s : State) : (tsReturn r s).cfg = s.cfg := rfl
@[simp] theorem tsReturn_rx_countdown (r : Option Half) (s : State) : (tsReturn r s).rx_countdown = s.rx_countdown := rfl
@[simp] theorem tsReturn_tx_countdown (r : Option Half) (s : State) : (tsReturn r s).tx_countdown = s.tx_countdown := rfl
@[simp] theorem tsReturn_rx_expired (r : Option Half) (s : State) : (tsReturn r s).rx_expired = s.rx_expired := rfl
@[simp] theorem tsReturn_tx_due (r : Option Half) (s : State) : (tsReturn r s).tx_due = s.tx_due := rfl
@[simp] theorem tsReturn_inactivity_ticks (r : Option Half) (s : State) : (tsReturn r s).inactivity_ticks = s.inactivity_ticks := rfl
@[simp] theorem tsReturn_role (r : Option Half) (s : State) : (tsReturn r s).role = s.role := rfl
@[simp] theorem tsReturn_hop_sequence_id (r : Option Half) (s : State) : (tsReturn r s).hop_sequence_id = s.hop_sequence_id := rfl
@[simp] theorem tsReturn_active_key_byte (r : Option Half) (s : State) : (tsReturn r s).active_key_byte = s.active_key_byte := rfl
@[simp] theorem tsReturn_channel_index (r : Option Half) (s : State) : (tsReturn r s).channel_index = s.channel_index := rfl
@[simp] theorem tsReturn_missed_hop_count (r : Option Half) (s : State) : (tsReturn r s).missed_hop_count = s.missed_hop_count := rfl
@[simp] theorem tsReturn_rx_buf (r : Option Half) (s : State) : (tsReturn r s).rx_buf = s.rx_buf := rfl
@[simp] theorem tsReturn_rx_ready (r : Option Half) (s : State) : (tsReturn r s).rx_ready = s.rx_ready := rfl
@[simp] theorem tsReturn_tx_buf (r : Option Half) (s : State) : (tsReturn r s).tx_buf = s.tx_buf := rfl
@[simp] theorem tsReturn_tx_pending (r : Option Half) (s : State) : (tsReturn r s).tx_pending = s.tx_pending := rfl
@[simp] theorem tsReturn_ctl_phase (r : Option Half) (s : State) : (tsReturn r s).ctl_phase = s.ctl_phase := rfl
@[simp] theorem tsReturn_radio_log (r : Option Half) (s : State) : (tsReturn r s).radio_log = s.radio_log := rfl
@[simp] theorem tsReturn_response_log (r : Option Half) (s : State) : (tsReturn r s).response_log = s.response_log := rfl
@[simp] theorem tsReturn_frame_received (r : Option Half) (s : State) : (tsReturn r s).frame_received = s.frame_received := rfl
@[simp] theorem tsReturn_last_payload (r : Option Half) (s : State) : (tsReturn r s).last_payload = s.last_payload := rfl
@[simp] theorem tsReturn_ts_result (r : Option Half) (s : State) : (tsReturn r s).ts_result = r := rfl
@[simp] theorem tsReturn_q_result (r : Option Half) (s : State) : (tsReturn r s).q_result = s.q_result := rfl
@[simp] theorem tsReturn_inputs (r : Option Half) (s : State) : (tsReturn r s).inputs = s.inputs := rfl
@[simp] theorem tsReturn_answers (r : Option Half) (s : State) : (tsReturn r s).answers = s.answers := rfl
@[simp] theorem tsReturn_turn (r : Option Half) (s : State) : (tsReturn r s).turn = s.turn := rfl

/-! ### qReturn -/

@[simp] theorem qReturn_cfg (r : RadioResult) (s : State) : (qReturn r s).cfg = s.cfg := rfl
@[simp] theorem qReturn_rx_countdown (r : RadioResult) (s : State) : (qReturn r s).rx_countdown = s.rx_countdown := rfl
@[simp] theorem qReturn_tx_countdown (r : RadioResult) (s : State) : (qReturn r s).tx_countdown = s.tx_countdown := rfl
@[simp] theorem qReturn_rx_expired (r : RadioResult) (s : State) : (qReturn r s).rx_expired = s.rx_expired := rfl
@[simp] theorem qReturn_tx_due (r : RadioResult) (s : State) : (qReturn r s).tx_due = s.tx_due := rfl
@[simp] theorem qReturn_inactivity_ticks (r : RadioResult) (s : State) : (qReturn r s).inactivity_ticks = s.inactivity_ticks := rfl
@[simp] theorem qReturn_role (r : RadioResult) (s : State) : (qReturn r s).role = s.role := rfl
@[simp] theorem qReturn_hop_sequence_id (r : RadioResult) (s : State) : (qReturn r s).hop_sequence_id = s.hop_sequence_id := rfl
@[simp] theorem qReturn_active_key_byte (r : RadioResult) (s : State) : (qReturn r s).active_key_byte = s.active_key_byte := rfl
@[simp] theorem qReturn_channel_index (r : RadioResult) (s : State) : (qReturn r s).channel_index = s.channel_index := rfl
@[simp] theorem qReturn_missed_hop_count (r : RadioResult) (s : State) : (qReturn r s).missed_hop_count = s.missed_hop_count := rfl
@[simp] theorem qReturn_rx_buf (r : RadioResult) (s : State) : (qReturn r s).rx_buf = s.rx_buf := rfl
@[simp] theorem qReturn_rx_ready (r : RadioResult) (s : State) : (qReturn r s).rx_ready = s.rx_ready := rfl
@[simp] theorem qReturn_tx_buf (r : RadioResult) (s : State) : (qReturn r s).tx_buf = s.tx_buf := rfl
@[simp] theorem qReturn_tx_pending (r : RadioResult) (s : State) : (qReturn r s).tx_pending = s.tx_pending := rfl
@[simp] theorem qReturn_ctl_phase (r : RadioResult) (s : State) : (qReturn r s).ctl_phase = s.ctl_phase := rfl
@[simp] theorem qReturn_radio_log (r : RadioResult) (s : State) : (qReturn r s).radio_log = s.radio_log := rfl
@[simp] theorem qReturn_response_log (r : RadioResult) (s : State) : (qReturn r s).response_log = s.response_log := rfl
@[simp] theorem qReturn_frame_received (r : RadioResult) (s : State) : (qReturn r s).frame_received = s.frame_received := rfl
@[simp] theorem qReturn_last_payload (r : RadioResult) (s : State) : (qReturn r s).last_payload = s.last_payload := rfl
@[simp] theorem qReturn_ts_result (r : RadioResult) (s : State) : (qReturn r s).ts_result = s.ts_result := rfl
@[simp] theorem qReturn_q_result (r : RadioResult) (s : State) : (qReturn r s).q_result = r := rfl
@[simp] theorem qReturn_inputs (r : RadioResult) (s : State) : (qReturn r s).inputs = s.inputs := rfl
@[simp] theorem qReturn_answers (r : RadioResult) (s : State) : (qReturn r s).answers = s.answers := rfl
@[simp] theorem qReturn_turn (r : RadioResult) (s : State) : (qReturn r s).turn = s.turn := rfl

/-! ### load -/

@[simp] theorem load_cfg (others : List Input) (a : Option Answers) (s : State) : (load others a s).cfg = s.cfg := rfl
@[simp] theorem load_rx_countdown (others : List Input) (a : Option Answers) (s : State) : (load others a s).rx_countdown = s.rx_countdown := rfl
@[simp] theorem load_tx_countdown (others : List Input) (a : Option Answers) (s : State) : (load others a s).tx_countdown = s.tx_countdown := rfl
@[simp] theorem load_rx_expired (others : List Input) (a : Option Answers) (s : State) : (load others a s).rx_expired = s.rx_expired := rfl
@[simp] theorem load_tx_due (others : List Input) (a : Option Answers) (s : State) : (load others a s).tx_due = s.tx_due := rfl
@[simp] theorem load_inactivity_ticks (others : List Input) (a : Option Answers) (s : State) : (load others a s).inactivity_ticks = s.inactivity_ticks := rfl
@[simp] theorem load_role (others : List Input) (a : Option Answers) (s : State) : (load others a s).role = s.role := rfl
@[simp] theorem load_hop_sequence_id (others : List Input) (a : Option Answers) (s : State) : (load others a s).hop_sequence_id = s.hop_sequence_id := rfl
@[simp] theorem load_active_key_byte (others : List Input) (a : Option Answers) (s : State) : (load others a s).active_key_byte = s.active_key_byte := rfl
@[simp] theorem load_channel_index (others : List Input) (a : Option Answers) (s : State) : (load others a s).channel_index = s.channel_index := rfl
@[simp] theorem load_missed_hop_count (others : List Input) (a : Option Answers) (s : State) : (load others a s).missed_hop_count = s.missed_hop_count := rfl
@[simp] theorem load_rx_buf (others : List Input) (a : Option Answers) (s : State) : (load others a s).rx_buf = s.rx_buf := rfl
@[simp] theorem load_rx_ready (others : List Input) (a : Option Answers) (s : State) : (load others a s).rx_ready = s.rx_ready := rfl
@[simp] theorem load_tx_buf (others : List Input) (a : Option Answers) (s : State) : (load others a s).tx_buf = s.tx_buf := rfl
@[simp] theorem load_tx_pending (others : List Input) (a : Option Answers) (s : State) : (load others a s).tx_pending = s.tx_pending := rfl
@[simp] theorem load_ctl_phase (others : List Input) (a : Option Answers) (s : State) : (load others a s).ctl_phase = s.ctl_phase := rfl
@[simp] theorem load_radio_log (others : List Input) (a : Option Answers) (s : State) : (load others a s).radio_log = s.radio_log := rfl
@[simp] theorem load_response_log (others : List Input) (a : Option Answers) (s : State) : (load others a s).response_log = s.response_log := rfl
@[simp] theorem load_frame_received (others : List Input) (a : Option Answers) (s : State) : (load others a s).frame_received = s.frame_received := rfl
@[simp] theorem load_last_payload (others : List Input) (a : Option Answers) (s : State) : (load others a s).last_payload = s.last_payload := rfl
@[simp] theorem load_ts_result (others : List Input) (a : Option Answers) (s : State) : (load others a s).ts_result = s.ts_result := rfl
@[simp] theorem load_q_result (others : List Input) (a : Option Answers) (s : State) : (load others a s).q_result = s.q_result := rfl
@[simp] theorem load_inputs (others : List Input) (a : Option Answers) (s : State) : (load others a s).inputs = others := rfl
@[simp] theorem load_turn (others : List Input) (a : Option Answers) (s : State) : (load others a s).turn = s.turn + 1 := rfl

@[simp] theorem load_answers_some (others : List Input) (a : Answers) (s : State) : (load others (some a) s).answers = a := rfl
@[simp] theorem load_answers_none (others : List Input) (s : State) :
    (load others none s).answers = Config.freeAnswers s.turn := rfl
@[simp] theorem tsTakeRx_old (s : State) : (tsTakeRx s).1 = s.rx_expired := rfl
@[simp] theorem tsTakeTx_old (s : State) : (tsTakeTx s).1 = s.tx_due := rfl

end Sys2Proof.Machine
end

