-- ==== Sys2Proof/Laws/Ops.lean ====
section
/-! SUPPORT. What each shared operation of Machine/Ops.lean and Machine/Flags.lean can do, said once. -/

namespace Sys2Proof.Machine

open Sys2Proof

/-! ### The tick (40_tickstate.md R110, R111) -/

theorem countDown_toNat (cnt : Half) : (countDown cnt).toNat = cnt.toNat - 1 := by
  unfold countDown
  split <;> bv_omega

theorem expireFlag_eq (cnt : Half) (flag : Bool) : expireFlag cnt flag = (flag || cnt == 1) := by
  unfold expireFlag countDown
  congr 1
  by_cases h : cnt = 0#16
  · subst h; decide
  · by_cases h₁ : cnt = 1#16
    · subst h₁; decide
    · have h₂ : cnt - 1#16 ≠ 0#16 := by bv_omega
      simp [h, beq_eq_false_iff_ne.mpr h₁, beq_eq_false_iff_ne.mpr h₂]

theorem guardUp_toNat {c : Config} (hc : c.Legal) (g : Half) :
    (guardUp c g).toNat = if g.toNat < c.BLANKING_TIMEOUT then g.toNat + 1 else g.toNat := by
  obtain ⟨-, -, -, -, ⟨-, hb⟩, -⟩ := hc
  unfold guardUp
  split <;> bv_omega

theorem guardUp_le {c : Config} (hc : c.Legal) {g : Half} (hg : g.toNat ≤ c.BLANKING_TIMEOUT) :
    (guardUp c g).toNat ≤ c.BLANKING_TIMEOUT := by
  rw [guardUp_toNat hc]
  split <;> omega

/-! ### Acceptance (30_encoding.md R82) -/

theorem accept_idle {body : State → State} {s : State} (h : s.ctl_phase = .idle) : accept body s = .next (body s) := by
  simp [accept, h]

theorem accept_txOnair {body : State → State} {s : State} (h : s.ctl_phase = .txOnair) : accept body s = .next s := by
  simp [accept, h]

/-- All that accepting a command can do. -/
theorem accept_cases {body : State → State} {s t : State} (h : accept body s = .next t) :
    (s.ctl_phase = .idle ∧ t = body s) ∨ (s.ctl_phase = .txOnair ∧ t = s) := by
  cases hp : s.ctl_phase with
  | idle => simp [accept_idle hp] at h; exact .inl ⟨rfl, h.symm⟩
  | txOnair => simp [accept_txOnair hp] at h; exact .inr ⟨rfl, h.symm⟩

/-! ### The choice of the next input -/

/-- The input taken was presented and is enabled, those before it were held off, and those are all that stay. -/
theorem takeEnabled_some {p : Phase} {l : List Input} {i : Input} {others : List Input}
    (h : takeEnabled p l = some (i, others)) :
    ∃ held later, l = held ++ i :: later ∧ others = held ++ later ∧ enabled p i = true ∧
      ∀ j ∈ held, enabled p j = false := by
  induction l generalizing others with
  | nil => simp [takeEnabled] at h
  | cons a rest ih =>
    unfold takeEnabled at h
    split at h
    · cases h
      exact ⟨[], rest, rfl, rfl, ‹_›, by simp⟩
    · split at h
      · rename_i ha _ j r hr
        simp only [Option.some.injEq, Prod.mk.injEq] at h
        obtain ⟨rfl, rfl⟩ := h
        obtain ⟨held, later, h₁, h₂, h₃, h₄⟩ := ih hr
        exact ⟨a :: held, later, by simp [h₁], by simp [h₂], h₃, by simpa [ha] using h₄⟩
      · cases h

theorem takeEnabled_mem {p : Phase} {l : List Input} {i : Input} {others : List Input}
    (h : takeEnabled p l = some (i, others)) {j : Input} (hj : j ∈ others) : j ∈ l := by
  obtain ⟨held, later, rfl, rfl, -, -⟩ := takeEnabled_some h
  simp at hj ⊢
  tauto

@[simp] theorem takeEnabled_cons_enabled {p : Phase} {i : Input} {rest : List Input} (h : enabled p i = true) :
    takeEnabled p (i :: rest) = some (i, rest) := by simp [takeEnabled, h]

/-- All that one step can do: wait, reset, or execute the decoded signal of an enabled input. -/
theorem step_cases {s t : State} (h : step s = .next t) :
    (takeEnabled s.ctl_phase s.inputs = none ∧ t = s) ∨
    (∃ others, takeEnabled s.ctl_phase s.inputs = some (.reset, others) ∧ t = applyReset others s) ∨
    (∃ sig a others i, takeEnabled s.ctl_phase s.inputs = some (.signal sig a, others) ∧ decode sig = .ok i ∧
      exec i (load others a s) = .next t) := by
  unfold step at h
  split at h
  · exact .inl ⟨‹_›, by simpa using h.symm⟩
  · exact .inr (.inl ⟨_, ‹_›, by simpa using h.symm⟩)
  · split at h
    · exact .inr (.inr ⟨_, _, _, _, ‹_›, ‹_›, h⟩)
    · simp at h

end Sys2Proof.Machine
end

