-- ==== Sys2Proof/Laws/Commands.lean ====
section
/-! SUPPORT. What each command body and event can do, said once: the outcomes the spec's tables list. -/

namespace Sys2Proof.Machine

open Sys2Proof

/-- The two outcomes of `CFG_SEL` (41_hop_channel_key.md R136). -/
theorem cfgSel_cases (sel : Byte) (s : State) :
    (s.cfg.selectKey sel = s.active_key_byte ∧ cfgSel sel s = respond .ok .none s) ∨
    (s.cfg.selectKey sel ≠ s.active_key_byte ∧ cfgSel sel s = respond .ok .none (applySelector sel s)) := by
  unfold cfgSel
  by_cases h : s.cfg.selectKey sel = s.active_key_byte <;> simp [h]

/-- The three outcomes of `SUBMIT` (42_packetcodec.md R156). -/
theorem submit_cases (payload : List Byte) (s : State) :
    (payload.length ≠ s.cfg.N - CRC_LEN ∧ submit payload s = respond .illegal .none s) ∨
    (payload.length = s.cfg.N - CRC_LEN ∧ s.tx_pending = true ∧ submit payload s = respond .notReady .none s) ∨
    (payload.length = s.cfg.N - CRC_LEN ∧ s.tx_pending = false ∧ submit payload s = submitAccepted payload s) := by
  unfold submit
  by_cases h : payload.length = s.cfg.N - CRC_LEN <;> cases hp : s.tx_pending <;> simp [h]

/-- The three outcomes of `TAKE` (R157). -/
theorem takeFrame_cases (s : State) :
    (s.rx_ready = false ∧ takeFrame s = respond .notReady .none s) ∨
    (s.rx_ready = true ∧ s.cfg.verify s.rx_buf = false ∧
      takeFrame s = respond .notReady .none { s with rx_ready := false }) ∨
    (s.rx_ready = true ∧ s.cfg.verify s.rx_buf = true ∧
      takeFrame s = respond .ok (.payload (payloadOf s.cfg.N s.rx_buf)) { s with rx_ready := false }) := by
  unfold takeFrame
  cases hr : s.rx_ready <;> cases hv : s.cfg.verify s.rx_buf <;> simp

/-- The poll only makes requests (43_linksynchronizer.md R171). -/
theorem rxPoll_cases (s : State) :
    ∃ log, (rxPoll s).2 = { s with radio_log := s.radio_log ++ log } ∧
      ((log = [.avail] ∧ s.answers.avail = false ∧ (rxPoll s).1 = none) ∨
       (log = [.avail, .recv] ∧ s.answers.avail = true ∧ s.cfg.verify (receivedBytes s.answers) = false ∧
         (rxPoll s).1 = none) ∨
       (log = [.avail, .recv] ∧ s.answers.avail = true ∧ s.cfg.verify (receivedBytes s.answers) = true ∧
         (rxPoll s).1 = some (receivedBytes s.answers))) := by
  unfold rxPoll
  cases ha : s.answers.avail
  · exact ⟨[.avail], by simp [request], by simp⟩
  · cases hv : s.cfg.verify (receivedBytes s.answers) <;>
      exact ⟨[.avail, .recv], by simp [request], by simp⟩

/-- The three outcomes of a receive step: a hit, a miss, or the wait goes on (R176). -/
theorem rxStep_cases (s : State) :
    (∃ frame, (rxPoll s).1 = some frame ∧
      rxStep s = rxFinish (rxHit (advanceSlot (rxCommit frame (rxPoll s).2)))) ∨
    ((rxPoll s).1 = none ∧ (rxPoll s).2.rx_expired = true ∧ rxStep s = rxFinish (rxMiss (advanceSlot (rxPoll s).2))) ∨
    ((rxPoll s).1 = none ∧ (rxPoll s).2.rx_expired = false ∧ rxStep s = respond .idle .none (rxPoll s).2) := by
  unfold rxStep
  rcases rxPoll s with ⟨_ | frame, polled⟩
  · cases h : polled.rx_expired <;> simp [h]
  · simp

/-- The two outcomes of a transmit step that is not blanked (44_txscheduler.md R192). -/
theorem txStep_cases (s : State) :
    (s.tx_due = false ∧ txStep s = respond .idle .none s) ∨ (s.tx_due = true ∧ txStep s = txFire s) := by
  unfold txStep
  cases s.tx_due <;> simp

/-- The branches of `STEP` (45_controltask.md R210). -/
theorem controlStep_cases (s : State) :
    (s.role = true ∧ s.blanked = true ∧ controlStep s = respond .blanked .none s) ∨
    (s.role = true ∧ s.blanked = false ∧ controlStep s = txStep s) ∨
    (s.role = false ∧ controlStep s = rxStep s) := by
  unfold controlStep
  cases s.role <;> cases s.blanked <;> simp

/-- The two outcomes of `STATUS` (R214). -/
theorem status_cases (f : Byte) (s : State) :
    (∃ v, statusValue f s = some v ∧ status f s = respond .ok (.value v) s) ∨
    (statusValue f s = none ∧ status f s = respond .illegal .none s) := by
  unfold status
  rcases h : statusValue f s with _ | v <;> simp

/-- `TX_DONE` has a step only on air (44_txscheduler.md R193). -/
theorem execTxDone_cases {s t : State} (h : execTxDone s = .next t) : s.ctl_phase = .txOnair ∧ t = txFinish s := by
  unfold execTxDone at h
  split at h
  · exact ⟨‹_›, by simpa using h.symm⟩
  · simp at h

end Sys2Proof.Machine
end

