-- ==== Sys2Proof/Laws/PerInstr.lean ====
section
/-! SUPPORT. Per-instruction lemmas: the family RoundTrip (decoding the encoding of a well-formed instruction). -/

namespace Sys2Proof.Laws

open Sys2Proof

/-- The opcode of a command word is read back (30_encoding.md R81). -/
@[simp] theorem opOf_commandWord (op imm : Byte) : opOf (commandWord op imm) = op := by
  unfold opOf commandWord
  ext i hi
  rw [BitVec.getElem_extractLsb']
  refine (BitVec.getLsbD_append (x := op) (y := imm) (i := 8 + i)).trans ?_
  simp [hi]

/-- The immediate of a command word is read back (R81). -/
@[simp] theorem immOf_commandWord (op imm : Byte) : immOf (commandWord op imm) = imm := by
  unfold immOf commandWord
  ext i hi
  rw [BitVec.getElem_extractLsb']
  refine (BitVec.getLsbD_append (x := op) (y := imm) (i := 0 + i)).trans ?_
  simp [hi]

/-- Every opcode above 0x08 is a reserved word (R83). -/
theorem decodeCommand_reserved {w : Half} (operand : List Byte) (h : 9 ≤ (opOf w).toNat) :
    decodeCommand w operand = .reserved (opOf w) (immOf w) := by
  unfold decodeCommand
  split <;> first | omega | rfl

/-- Decoding the encoding of a well-formed instruction gives it back. -/
def RoundTrip.Statement (i : Instr) : Prop := i.wellFormed = true → decode (encode i) = .ok i

namespace RoundTrip

theorem nop (imm : Byte) : Statement (.nop imm) := by
  intro _
  simp [decode, encode, decodeCommand]

theorem start (imm : Byte) : Statement (.start imm) := by
  intro _
  simp [decode, encode, decodeCommand]

theorem cfgRole (imm : Byte) : Statement (.cfgRole imm) := by
  intro _
  simp [decode, encode, decodeCommand]

theorem cfgSel (imm : Byte) : Statement (.cfgSel imm) := by
  intro _
  simp [decode, encode, decodeCommand]

theorem clrGuard (imm : Byte) : Statement (.clrGuard imm) := by
  intro _
  simp [decode, encode, decodeCommand]

theorem submit (imm : Byte) (payload : List Byte) : Statement (.submit imm payload) := by
  intro _
  simp [decode, encode, decodeCommand]

theorem take (imm : Byte) : Statement (.take imm) := by
  intro _
  simp [decode, encode, decodeCommand]

theorem step (imm : Byte) : Statement (.step imm) := by
  intro _
  simp [decode, encode, decodeCommand]

theorem status (imm : Byte) : Statement (.status imm) := by
  intro _
  simp [decode, encode, decodeCommand]

theorem reserved (op : Byte) (imm : Byte) : Statement (.reserved op imm) := by
  intro h
  simp only [Instr.wellFormed, decide_eq_true_eq] at h
  simp [decode, encode, decodeCommand_reserved, h]

theorem tsPeek (f : Half) : Statement (.tsPeek f) := by
  intro h
  simp only [Instr.wellFormed, decide_eq_true_eq] at h
  simp [decode, encode, decodeTickState, h]

theorem tsArmRx (v : Half) : Statement (.tsArmRx v) := fun _ => rfl

theorem tsArmTx (v : Half) : Statement (.tsArmTx v) := fun _ => rfl

theorem tsTakeRx : Statement .tsTakeRx := fun _ => rfl

theorem tsTakeTx : Statement .tsTakeTx := fun _ => rfl

theorem tsGuardClr : Statement .tsGuardClr := fun _ => rfl

theorem tsReserved (code : BitVec 3) : Statement (.tsReserved code) := by
  intro h
  simp only [Instr.wellFormed, decide_eq_true_eq] at h
  simp only [decode, encode, decodeTickState]
  split <;> first | omega | rfl

theorem qReset : Statement .qReset := fun _ => rfl

theorem qConfigure (profile : List Byte) : Statement (.qConfigure profile) := fun _ => rfl

theorem qSetFreq (hz : Word) : Statement (.qSetFreq hz) := fun _ => rfl

theorem qSetPower (level : Nat) (highPower : Bool) : Statement (.qSetPower level highPower) := fun _ => rfl

theorem qSetKey (key : List Byte) : Statement (.qSetKey key) := by
  intro h
  simp [decode, encode, decodeRadio, bytesArgument, h]

theorem qAvail : Statement .qAvail := fun _ => rfl

theorem qRecv : Statement .qRecv := fun _ => rfl

theorem qXmit (frame : List Byte) : Statement (.qXmit frame) := fun _ => rfl

theorem qWaitDone : Statement .qWaitDone := fun _ => rfl

theorem tick : Statement .tick := fun _ => rfl

theorem txDone : Statement .txDone := fun _ => rfl

end RoundTrip

end Sys2Proof.Laws
end

