-- ==== Sys2Proof/Tests/Slice0.lean ====
section
/-! SUPPORT. The model's own tests: ill-formed terms that the checks refuse, the words of 30_encoding.md decoded, vectors of
95_test_vectors.md (each test names its vector), and for every statement a case that meets its hypotheses. The expected
values are the spec's. -/

namespace Sys2Proof.Tests

open Sys2Proof Sys2Proof.Machine

/-! ### Fixtures (95_test_vectors.md section 0) -/

/-- FX1. -/
def fx1 : Config where
  N := 6
  M := 5
  HOP_ROM := [[0, 3, 1, 4, 2], [1, 4, 2, 0, 3], [2, 0, 3, 1, 4], [3, 1, 4, 2, 0],
              [4, 2, 0, 3, 1], [0, 2, 4, 1, 3], [1, 3, 0, 2, 4], [4, 3, 2, 1, 0]]
  TICK_UNITS := 1
  BLANKING_TIMEOUT := 200
  HOP_KEY_OFFSET := 0x40
  KEY_TEMPLATE := [0xA0, 0xA1, 0xA2, 0xA3, 0xA4, 0xA5, 0xA6, 0xA7, 0xA8, 0xA9, 0xAA, 0xAB, 0xAC, 0xAD, 0xAE, 0xAF]
  KEY_POS := 15
  BASE_FREQUENCY := 902000000
  CHANNEL_SPACING := 500000

/-- FX2. -/
def fx2 : Config := { fx1 with TICK_UNITS := 2, BLANKING_TIMEOUT := 100 }

/-- The first 15 bytes of every key under FX1. -/
def keyHead : List Byte := [0xA0, 0xA1, 0xA2, 0xA3, 0xA4, 0xA5, 0xA6, 0xA7, 0xA8, 0xA9, 0xAA, 0xAB, 0xAC, 0xAD, 0xAE]

/-- The frame of V-CRC-10. -/
def frame1 : List Byte := [0x01, 0x02, 0x03, 0x04, 0xC5, 0x4F]

/-- That frame with its checksum bytes swapped, V-CRC-16. -/
def frame1Swapped : List Byte := [0x01, 0x02, 0x03, 0x04, 0x4F, 0xC5]

/-- No frame waits; a tuning succeeds. -/
def quiet : Answers := ⟨true, false, []⟩

/-- These bytes wait in the radio. -/
def hears (bytes : List Byte) : Answers := ⟨true, true, bytes⟩

/-- The reset state under FX1, its unspecified buffers filled with zeros. -/
def base : State :=
  { State.atReset fx1 0 with rx_buf := [0, 0, 0, 0, 0, 0], tx_buf := [0, 0, 0, 0, 0, 0], answers := quiet }

/-- A receiver of V-RX: channel index, misses, countdown, expired. -/
def rxAt (slot : Byte) (missed : BitVec 5) (cnt : Half) (expired : Bool) (a : Answers) : State :=
  { base with channel_index := slot, missed_hop_count := missed, rx_countdown := cnt, rx_expired := expired, answers := a }

/-- A transmitter of V-TX: countdown, due, guard, channel index, pending. -/
def txAt (cnt : Half) (due : Bool) (guard : Half) (slot : Byte) (pending : Bool) : State :=
  { base with
    role := true, tx_countdown := cnt, tx_due := due, inactivity_ticks := guard, channel_index := slot
    tx_pending := pending, tx_buf := frame1 }

/-- A transmitter on air, V-TX-4 after `TICKS 4`. -/
def onAir : State := { txAt 46 false 54 0 true with ctl_phase := .txOnair }

/-- A state with one signal presented. -/
def presented (sigs : List Signal) (s : State) : State := { s with inputs := sigs.map (fun sig => .signal sig none) }

/-- Something read off the next state. -/
def after {α : Type} (i : Instr) (s : State) (read : State → α) : Option α := (nextOf (exec i s)).map read

/-- The last response. -/
def answer (s : State) : Option Response := s.response_log.getLast?

/-! ### Ill-formed terms -/

theorem test_reserved_op_below_nine_is_ill_formed : (Instr.reserved 8 0).wellFormed = false := by decide
theorem test_peek_field_five_is_ill_formed : (Instr.tsPeek 5).wellFormed = false := by decide
theorem test_reserved_ts_code_five_is_ill_formed : (Instr.tsReserved 5).wellFormed = false := by decide
theorem test_key_of_fifteen_bytes_is_ill_formed : (Instr.qSetKey keyHead).wellFormed = false := by decide
theorem fx1_legal : fx1.Legal := by decide
theorem fx2_legal : fx2.Legal := by decide
theorem test_row_with_a_repeated_channel_is_illegal :
    ¬({ fx1 with HOP_ROM := [0, 0, 1, 4, 2] :: fx1.HOP_ROM.tail } : Config).Legal := by decide
theorem test_three_time_units_per_tick_are_illegal : ¬({ fx1 with TICK_UNITS := 3 } : Config).Legal := by decide
theorem test_frequency_beyond_32_bits_is_illegal :
    ¬({ fx1 with BASE_FREQUENCY := 2 ^ 32 - 2000000 } : Config).Legal := by decide

/-! ### Words written out from 30_encoding.md, one for every row of the opcode table -/

theorem test_decode_nop : decode (.command 0b0000000011111111 []) = .ok (.nop 0xFF) := by decide
theorem test_decode_start : decode (.command 0b0000000100000000 []) = .ok (.start 0x00) := by decide
theorem test_decode_cfgRole : decode (.command 0b0000001011111110 []) = .ok (.cfgRole 0xFE) := by decide
theorem test_decode_cfgSel : decode (.command 0b0000001100001011 []) = .ok (.cfgSel 0x0B) := by decide
theorem test_decode_clrGuard : decode (.command 0b0000010000000000 []) = .ok (.clrGuard 0x00) := by decide
theorem test_decode_submit :
    decode (.command 0b0000010110100111 [5, 6, 7, 8]) = .ok (.submit 0xA7 [5, 6, 7, 8]) := by decide
theorem test_decode_take : decode (.command 0b0000011000000000 []) = .ok (.take 0x00) := by decide
theorem test_decode_step : decode (.command 0b0000011100000000 []) = .ok (.step 0x00) := by decide
theorem test_decode_status : decode (.command 0b0000100000000010 []) = .ok (.status 0x02) := by decide
theorem test_decode_reserved :
    decode (.command 0b0000100100000000 []) = .ok (.reserved 0x09 0x00) ∧
    decode (.command 0b1111111100000000 []) = .ok (.reserved 0xFF 0x00) := by decide
theorem test_decode_tsPeek : decode (.tickState 0b000 4) = .ok (.tsPeek 4) := by decide
theorem test_decode_tsArmRx : decode (.tickState 0b001 60) = .ok (.tsArmRx 60) := by decide
theorem test_decode_tsArmTx : decode (.tickState 0b010 25) = .ok (.tsArmTx 25) := by decide
theorem test_decode_tsTakeRx : decode (.tickState 0b011 0) = .ok .tsTakeRx := by decide
theorem test_decode_tsTakeTx : decode (.tickState 0b100 0) = .ok .tsTakeTx := by decide
theorem test_decode_tsGuardClr : decode (.tickState 0b101 0) = .ok .tsGuardClr := by decide
theorem test_decode_tsReserved :
    decode (.tickState 0b110 0) = .ok (.tsReserved 6) ∧ decode (.tickState 0b111 0) = .ok (.tsReserved 7) := by decide
theorem test_decode_qReset : decode (.radio 0b0000 .none) = .ok .qReset := by decide
theorem test_decode_qConfigure : decode (.radio 0b0001 (.profile [3])) = .ok (.qConfigure [3]) := by decide
theorem test_decode_qSetFreq : decode (.radio 0b0010 (.hz 904000000)) = .ok (.qSetFreq 904000000) := by decide
theorem test_decode_qSetPower : decode (.radio 0b0011 (.power 13 true)) = .ok (.qSetPower 13 true) := by decide
theorem test_decode_qSetKey :
    decode (.radio 0b0100 (.bytes (keyHead ++ [0x4B]))) = .ok (.qSetKey (keyHead ++ [0x4B])) := by decide
theorem test_decode_qAvail : decode (.radio 0b0101 .none) = .ok .qAvail := by decide
theorem test_decode_qRecv : decode (.radio 0b0110 .none) = .ok .qRecv := by decide
theorem test_decode_qXmit : decode (.radio 0b0111 (.bytes frame1)) = .ok (.qXmit frame1) := by decide
theorem test_decode_qWaitDone : decode (.radio 0b1000 .none) = .ok .qWaitDone := by decide
theorem test_decode_tick : decode .tick = .ok .tick := by decide
theorem test_decode_txDone : decode .txDone = .ok .txDone := by decide
theorem test_decode_refuses_what_is_unused :
    decode (.radio 0b1001 .none) = .error (.unusedRequestCode 9) ∧
    decode (.radio 0b0100 (.bytes keyHead)) = .error (.requestArguments 4) ∧
    decode (.tickState 0b000 5) = .error (.peekFieldNeverIssued 5) := by decide

/-! ### The fixed names over the opcode table -/

theorem test_decodeTableWord :
    decodeTableWord 16 0x030B = some (.cfgSel 0x0B) ∧ decodeTableWord 3 0b011 = some .tsTakeRx ∧
    decodeTableWord 4 0b0101 = some .qAvail ∧ decodeTableWord 8 8 = some .qWaitDone ∧
    decodeTableWord 0 0 = some .tick := by decide

/-- 95_test_vectors.md P1 line 2 through the port: the word presented is the next transition. -/
theorem test_withFetchWord_runs_the_word :
    (nextOf (step (base.withFetchWord 16 0x030B))).map (fun t => (t.hop_sequence_id, t.active_key_byte, t.inputs)) =
      some (3, 0x4B, []) := by decide

/-! ### TickState (vectors V-TS) -/

/-- What V-TS writes down. -/
structure TsView where
  rx_countdown : Half
  rx_expired : Bool
  tx_countdown : Half
  tx_due : Bool
  inactivity_ticks : Half
deriving DecidableEq, Repr

/-- What V-TS writes down of a state. -/
def ts (s : State) : TsView := ⟨s.rx_countdown, s.rx_expired, s.tx_countdown, s.tx_due, s.inactivity_ticks⟩

/-- A state from what V-TS writes. -/
def tsAt (rc : Half) (re : Bool) (tc : Half) (td : Bool) (g : Half) : State :=
  { base with rx_countdown := rc, rx_expired := re, tx_countdown := tc, tx_due := td, inactivity_ticks := g }

/-- V-TS-1. -/
theorem test_tick_expires_the_receive_countdown :
    after .tick (tsAt 1 false 7 false 4) ts = some ⟨0, true, 6, false, 5⟩ := by decide
/-- V-TS-4 (and V-TS-3: set flags stay). -/
theorem test_tick_saturates_the_guard :
    after .tick (tsAt 5 false 5 false 200) ts = some ⟨4, false, 4, false, 200⟩ ∧
    after .tick (tsAt 0 true 0 true 9) ts = some ⟨0, true, 0, true, 10⟩ := by decide
/-- V-TS-8, V-TS-9. -/
theorem test_takeRx_returns_and_clears :
    after .tsTakeRx (tsAt 0 true 3 false 0) (fun t => (ts t, t.ts_result)) = some (⟨0, false, 3, false, 0⟩, some 1) ∧
    after .tsTakeRx (tsAt 0 false 3 false 0) (fun t => (ts t, t.ts_result)) = some (⟨0, false, 3, false, 0⟩, some 0) := by
  decide
/-- V-TS-10. -/
theorem test_takeTx_returns_and_clears :
    after .tsTakeTx (tsAt 9 false 0 true 0) (fun t => (ts t, t.ts_result)) = some (⟨9, false, 0, false, 0⟩, some 1) := by
  decide
/-- V-TS-11, V-TS-12. -/
theorem test_armRx_leaves_the_flag :
    after (.tsArmRx 60) (tsAt 0 true 0 false 0) ts = some ⟨60, true, 0, false, 0⟩ ∧
    after (.tsArmRx 50) (tsAt 12 false 0 false 0) ts = some ⟨50, false, 0, false, 0⟩ := by decide
/-- V-TS-13. -/
theorem test_armTx_loads :
    after (.tsArmTx 25) (tsAt 0 false 3 false 0) ts = some ⟨0, false, 25, false, 0⟩ := by decide
/-- V-TS-14. -/
theorem test_guardClr_clears :
    after .tsGuardClr (tsAt 0 false 0 false 200) ts = some ⟨0, false, 0, false, 0⟩ := by decide
/-- V-TS-15. -/
theorem test_peek_reads_the_five_fields :
    ([0, 1, 2, 3, 4].map fun f => after (.tsPeek f) (tsAt 7 true 8 false 33) (fun t => (ts t, t.ts_result))) =
      [7, 8, 1, 0, 33].map fun v => some (⟨7, true, 8, false, 33⟩, some v) := by decide
/-- V-TS-16. -/
theorem test_countdown_of_fifty_expires_at_the_fiftieth_tick :
    ts (ticks 49 (tsArmRx 50 base)) = ⟨1, false, 0, false, 49⟩ ∧
    ts (ticks 50 (tsArmRx 50 base)) = ⟨0, true, 0, false, 50⟩ := by decide +kernel
/-- V-TS-17, V-TS-18, V-TS-19. -/
theorem test_collisions :
    (tsTakeRx (tsAt 1 true 0 false 0)).1 = true ∧
    ts (withTick (fun s => (tsTakeRx s).2) (tsAt 1 true 0 false 0)) = ⟨0, true, 0, false, 1⟩ ∧
    ts (withTick (tsArmRx 50) base) = ⟨49, false, 0, false, 1⟩ ∧
    ts (withTick tsGuardClr (tsAt 0 false 0 false 200)) = ⟨0, false, 0, false, 1⟩ := by decide

/-! ### Channel and key (vectors V-SEL, V-CFG) -/

/-- The `SEQ` and `FREQ` values of section "HopTable, ChannelPlan, KeySelector", and address 17 of the linear ROM. -/
theorem test_seq_and_freq :
    fx1.seq 3 2 = 4 ∧ fx1.seq 7 4 = 0 ∧ fx1.seq 5 3 = 1 ∧ fx1.freq 0 = 902000000 ∧ fx1.freq 4 = 904000000 ∧
    fx1.romAddr 3 2 = 17 ∧ fx1.romLinear[17]? = some 4 := by decide
/-- V-SEL, and the corner with `HOP_KEY_OFFSET = 0xF8`. -/
theorem test_select :
    (Config.selectId 0x0B, fx1.selectKey 0x0B) = (3, 0x4B) ∧ (Config.selectId 0xFB, fx1.selectKey 0xFB) = (3, 0x4B) ∧
    ({ fx1 with HOP_KEY_OFFSET := 0xF8 } : Config).selectKey 0x08 = 0x00 ∧
    ({ fx1 with HOP_KEY_OFFSET := 0xF8 } : Config).selectKey 0x0F = 0x07 := by decide
/-- `KEY16(0x4B)`, at `KEY_POS = 15` and at 0. -/
theorem test_key16 :
    fx1.key16 0x4B = keyHead ++ [0x4B] ∧
    ({ fx1 with KEY_POS := 0 } : Config).key16 0x4B = 0x4B :: (keyHead ++ [0xAF]).tail := by decide
/-- V-CFG-1. -/
theorem test_cfgSel_applies :
    after (.cfgSel 0x0B) base (fun t => (t.hop_sequence_id, t.active_key_byte, t.radio_log)) =
      some (3, 0x4B, [.setKey (keyHead ++ [0x4B])]) := by decide
/-- V-CFG-3. -/
theorem test_cfgSel_of_the_active_key_is_a_no_op :
    after (.cfgSel 0x00) base (fun t => (t.hop_sequence_id, t.active_key_byte, t.radio_log, answer t)) =
      some (0, 0x40, [], some ⟨.ok, .none⟩) := by decide

/-! ### Checksum and buffers (vectors V-CRC, V-BUF) -/

/-- V-CRC-1, V-CRC-3, V-CRC-4, V-CRC-5, V-CRC-7. -/
theorem test_crc16 :
    crc16 [] = 0x0000 ∧ crc16 [0x01] = 0x1189 ∧ crc16 [0x80] = 0x8408 ∧ crc16 [0xFF] = 0x0F78 ∧
    crc16 [0x31, 0x32, 0x33, 0x34, 0x35, 0x36, 0x37, 0x38, 0x39] = 0x2189 := by decide +kernel
/-- V-CRC-7 in the bit-at-a-time form. -/
theorem test_crc16Bitwise :
    crc16Bitwise [0x31, 0x32, 0x33, 0x34, 0x35, 0x36, 0x37, 0x38, 0x39] = 0x2189 := by decide +kernel
/-- V-CRC-11. -/
theorem test_encodeFrame : encodeFrame [0xDE, 0xAD, 0xBE, 0xEF] = [0xDE, 0xAD, 0xBE, 0xEF, 0x19, 0x15] := by decide +kernel
/-- V-CRC-14, V-CRC-15 (one of the 48), V-CRC-16, V-CRC-17, V-CRC-18. -/
theorem test_verify :
    fx1.verify frame1 = true ∧ fx1.verify [0x01, 0x02, 0x03, 0x04, 0x45, 0x4F] = false ∧
    fx1.verify frame1Swapped = false ∧ fx1.verify (frame1.take 5) = false ∧ fx1.verify (frame1 ++ [0]) = false ∧
    fx1.verify [] = false ∧ fx1.verify [0, 0, 0, 0, 0, 0] = true := by decide +kernel
/-- V-BUF-5. -/
theorem test_submit_ok :
    after (.submit 0xA7 [5, 6, 7, 8]) { base with inactivity_ticks := 200 }
        (fun t => (t.tx_buf, decide (t.tx_pending = true ∧ t.inactivity_ticks = 0), t.last_payload, answer t)) =
      some ([0x05, 0x06, 0x07, 0x08, 0x79, 0xCE], true, some [5, 6, 7, 8], some ⟨.ok, .none⟩) := by decide +kernel
/-- V-BUF-4 and V-BUF-3. -/
theorem test_submit_not_ready_and_illegal :
    after (.submit 0 [5, 6, 7, 8]) { base with inactivity_ticks := 200, tx_pending := true }
        (fun t => (t.inactivity_ticks, answer t)) = some (200, some ⟨.notReady, .none⟩) ∧
    after (.submit 0 [1, 2, 3]) base answer = some (some ⟨.illegal, .none⟩) := by decide
/-- V-BUF-7. -/
theorem test_take_ok :
    after (.take 0) { base with rx_ready := true, rx_buf := frame1 } (fun t => (t.rx_ready, t.rx_buf, answer t)) =
      some (false, frame1, some ⟨.ok, .payload [1, 2, 3, 4]⟩) := by decide +kernel
/-- V-BUF-6. -/
theorem test_take_not_ready : after (.take 0) base answer = some (some ⟨.notReady, .none⟩) := by decide

/-! ### The receive step (vectors V-RX) -/

/-- What V-RX writes down, with the requests. -/
structure RxView where
  channel_index : Byte
  missed_hop_count : BitVec 5
  rx_countdown : Half
  rx_expired : Bool
  rx_ready : Bool
  made : List Request
deriving DecidableEq, Repr

/-- What V-RX writes down of a state. -/
def rx (s : State) : RxView :=
  ⟨s.channel_index, s.missed_hop_count, s.rx_countdown, s.rx_expired, s.rx_ready, s.radio_log⟩

/-- V-RX-3, V-RX-4: the 20th miss advances, the 21st forces slot 0. -/
theorem test_step_misses :
    after (.step 0) (rxAt 4 19 0 true quiet) rx = some ⟨0, 20, 50, false, false, [.avail, .setFreq 902000000]⟩ ∧
    after (.step 0) (rxAt 3 20 0 true quiet) rx = some ⟨0, 20, 50, false, false, [.avail, .setFreq 902000000]⟩ ∧
    after (.step 0) (rxAt 2 3 0 true quiet) rx = some ⟨3, 4, 50, false, false, [.avail, .setFreq 904000000]⟩ := by
  decide
/-- V-RX-5, V-RX-9. -/
theorem test_step_hit_and_dropped_frame :
    after (.step 0) (rxAt 2 3 17 false (hears frame1)) rx =
      some ⟨3, 0, 60, false, true, [.avail, .recv, .setFreq 904000000]⟩ ∧
    after (.step 0) (rxAt 2 3 17 false (hears frame1Swapped)) rx =
      some ⟨2, 3, 17, false, false, [.avail, .recv]⟩ := by decide +kernel
/-- V-RX-8 (FX2). -/
theorem test_dwells_at_two_time_units :
    after (.step 0) { rxAt 2 3 0 true quiet with cfg := fx2 } State.rx_countdown = some 25 ∧
    after (.step 0) { rxAt 2 3 0 true (hears frame1) with cfg := fx2 } State.rx_countdown = some 30 := by decide +kernel

/-- 10_state.md R43: before the first frame, after a hit (V-RX-5), after a miss, parked. -/
theorem test_receive_labels :
    base.receiveLabel = .listening ∧
    after (.step 0) (rxAt 2 3 17 false (hears frame1)) State.receiveLabel = some .locked ∧
    (rxAt 0 19 0 true quiet).receiveLabel = .listening ∧ (rxAt 0 20 0 true quiet).receiveLabel = .resyncing := by
  decide +kernel

/-! ### The transmit step (vectors V-TX) -/

/-- What V-TX writes down, with the requests. -/
structure TxView where
  tx_countdown : Half
  tx_due : Bool
  inactivity_ticks : Half
  channel_index : Byte
  tx_pending : Bool
  ctl_phase : Phase
  made : List Request
deriving DecidableEq, Repr

/-- What V-TX writes down of a state. -/
def tx (s : State) : TxView :=
  ⟨s.tx_countdown, s.tx_due, s.inactivity_ticks, s.channel_index, s.tx_pending, s.ctl_phase, s.radio_log⟩

/-- V-TX-1, V-TX-3. -/
theorem test_step_blanked_and_not_due :
    after (.step 0) (txAt 0 true 200 2 false) (fun t => (tx t, answer t)) =
      some (⟨0, true, 200, 2, false, .idle, []⟩, some ⟨.blanked, .none⟩) ∧
    after (.step 0) (txAt 13 false 40 2 true) (fun t => (tx t, answer t)) =
      some (⟨13, false, 40, 2, true, .idle, []⟩, some ⟨.idle, .none⟩) := by decide
/-- V-TX-4, the fire. -/
theorem test_step_fires :
    after (.step 0) (txAt 0 true 50 0 true) (fun t => (tx t, answer t)) =
      some (⟨50, false, 50, 0, true, .txOnair, [.xmit frame1 6, .waitDone]⟩, none) := by decide
/-- V-TX-4, the end of the transmission. -/
theorem test_txDone :
    after .txDone onAir (fun t => (tx t, answer t)) =
      some (⟨46, false, 54, 1, false, .idle, [.setFreq 903500000]⟩, some ⟨.ok, .none⟩) := by decide
/-- V-TX-5: the slot wraps. -/
theorem test_txDone_wraps : after .txDone { onAir with channel_index := 4 } State.channel_index = some 0 := by decide
/-- V-TX-7. -/
theorem test_clrGuard :
    after (.clrGuard 0) (txAt 0 true 200 2 false) tx = some ⟨0, true, 0, 2, false, .idle, []⟩ := by decide

/-! ### The remaining commands (vectors V-CT) -/

/-- V-CT-1. -/
theorem test_nop : after (.nop 0xFF) base (fun t => (ts t, t.radio_log, answer t)) =
    some (⟨0, false, 0, false, 0⟩, [], some ⟨.ok, .none⟩) := by decide
/-- V-CT-2, V-CT-3. -/
theorem test_cfgRole :
    after (.cfgRole 0x01) base State.role = some true ∧
    after (.cfgRole 0xFE) { base with role := true } State.role = some false := by decide
/-- V-CT-4, V-CT-5. -/
theorem test_start :
    after (.start 0) base (fun t => (ts t, t.radio_log, answer t)) =
      some (⟨50, false, 50, false, 0⟩, [.setKey (keyHead ++ [0x40]), .setFreq 902000000], some ⟨.ok, .none⟩) ∧
    after (.start 0) { base with answers := ⟨false, false, []⟩ } answer = some (some ⟨.radioFail, .none⟩) := by decide
/-- V-CT-6. -/
theorem test_start_restarts_a_running_link :
    after (.start 0)
        { tsAt 0 true 12 true 77 with channel_index := 3, missed_hop_count := 20, rx_ready := true, tx_pending := true }
        (fun t => (ts t, t.channel_index, t.missed_hop_count, t.rx_ready, t.tx_pending)) =
      some (⟨50, false, 50, false, 77⟩, 0, 0, true, true) := by decide
/-- V-CT-8 and the tuned frequency of V-CT-7. -/
theorem test_status_values :
    after (.status 0x02) { tsAt 0 true 0 true 200 with role := true } answer = some (some ⟨.ok, .value 51⟩) ∧
    after (.status 0x09) base answer = some (some ⟨.ok, .value 902000000⟩) := by decide
/-- V-CT-9. -/
theorem test_status_illegal :
    after (.status 0x0A) base answer = some (some ⟨.illegal, .none⟩) ∧
    after (.status 0xFF) base answer = some (some ⟨.illegal, .none⟩) := by decide
/-- V-CT-10. -/
theorem test_reserved :
    after (.reserved 0xAB 0xCD) base (fun t => (answer t, t.radio_log)) = some (some ⟨.illegal, .none⟩, []) := by decide
/-- 30_encoding.md R88, R90, and the codes that are never issued (R87). -/
theorem test_radio_port :
    after (.qXmit frame1) base (fun t => (t.radio_log, t.q_result)) = some ([.xmit frame1 6], .none) ∧
    after .qRecv { base with answers := hears frame1 } (fun t => (t.radio_log, t.q_result)) =
      some ([.recv], .received frame1) ∧
    after (.tsReserved 6) base ts = none := by decide

/-! ### Witnesses: for each statement, states and operands that meet its hypotheses -/

theorem witness_NopOnlyAnswersOk : base.ctl_phase = .idle := by decide
theorem witness_ReservedWordsAnswerIllegal :
    9 ≤ (0x09#8).toNat ∧ 9 ≤ (0xFF#8).toNat ∧ base.ctl_phase = .idle := by decide
theorem witness_StartRestartsTimingAtSlotZero : base.ctl_phase = .idle := by decide
theorem witness_CfgRoleWritesRoleOnly : base.ctl_phase = .idle := by decide
/-- Both clauses: the key byte of selector 0 is the active one, that of selector 0xB is not. -/
theorem witness_CfgSelAppliesSelectorAtomically :
    base.ctl_phase = .idle ∧
    BitVec.ofNat 8 (base.cfg.HOP_KEY_OFFSET + (0x00#8).toNat % 16) = base.active_key_byte ∧
    BitVec.ofNat 8 (base.cfg.HOP_KEY_OFFSET + (0x0B#8).toNat % 16) ≠ base.active_key_byte := by decide
theorem witness_ClrGuardClearsTheGuardOnly : base.ctl_phase = .idle := by decide
/-- Three clauses, the wrong lengths one byte off on either side. -/
theorem witness_SubmitOutcomes :
    base.ctl_phase = .idle ∧ ([1, 2, 3] : List Byte).length ≠ base.cfg.N - 2 ∧
    ([1, 2, 3, 4, 5] : List Byte).length ≠ base.cfg.N - 2 ∧
    (([1, 2, 3, 4] : List Byte).length = base.cfg.N - 2 ∧ base.tx_pending = false) ∧
    (({ base with tx_pending := true } : State).tx_pending = true) := by decide
/-- Three clauses. -/
theorem witness_TakeOutcomes :
    base.ctl_phase = .idle ∧ base.rx_ready = false ∧
    base.cfg.verify frame1Swapped = false ∧ base.cfg.verify frame1 = true := by decide +kernel
theorem witness_StepDispatchesOnTheRole : base.ctl_phase = .idle := by decide
/-- Four clauses: a hit; a miss at 19; the cap at 20, reached with a frame that does not verify; the wait. -/
theorem witness_ReceiveStepOutcomes :
    (rxAt 2 3 0 true (hears frame1)).ctl_phase = .idle ∧ (rxAt 2 3 0 true (hears frame1)).role = false ∧
    ((hears frame1).avail = true ∧ fx1.verify (receivedBytes (hears frame1)) = true) ∧
    (¬(quiet.avail = true ∧ fx1.verify (receivedBytes quiet) = true) ∧
      (rxAt 4 19 0 true quiet).rx_expired = true ∧ (rxAt 4 19 0 true quiet).missed_hop_count ≠ 20) ∧
    (¬((hears frame1Swapped).avail = true ∧ fx1.verify (receivedBytes (hears frame1Swapped)) = true) ∧
      (rxAt 3 20 0 true (hears frame1Swapped)).missed_hop_count = 20) ∧
    (rxAt 2 3 17 false quiet).rx_expired = false := by decide +kernel
/-- Three clauses, at the ceiling of the guard and one below it. -/
theorem witness_TransmitStepOutcomes :
    (txAt 0 true 200 2 false).ctl_phase = .idle ∧ (txAt 0 true 200 2 false).role = true ∧
    (txAt 0 true 200 2 false).inactivity_ticks.toNat = fx1.BLANKING_TIMEOUT ∧
    ((txAt 13 false 199 2 true).inactivity_ticks.toNat ≠ fx1.BLANKING_TIMEOUT ∧ (txAt 13 false 199 2 true).tx_due = false) ∧
    ((txAt 0 true 199 2 true).inactivity_ticks.toNat ≠ fx1.BLANKING_TIMEOUT ∧ (txAt 0 true 199 2 true).tx_due = true) := by
  decide
theorem witness_TxDoneEndsTheTransmission : onAir.ctl_phase = .txOnair := by decide
/-- Both clauses, at selects 0x00, 0x09, 0x0A and 0xFF. -/
theorem witness_StatusReadsTheSelectedItem :
    base.ctl_phase = .idle ∧ (0x00#8).toNat < 10 ∧ (0x09#8).toNat < 10 ∧ 10 ≤ (0x0A#8).toNat ∧ 10 ≤ (0xFF#8).toNat := by
  decide
theorem witness_TakingReturnsAndClearsTheFlag :
    after .tsTakeRx (tsAt 0 true 3 true 0) (fun t => (t.rx_expired, t.tx_due)) = some (false, true) ∧
    after .tsTakeTx (tsAt 0 true 3 true 0) (fun t => (t.rx_expired, t.tx_due)) = some (true, false) := by decide
theorem witness_PeekReturnsTheField :
    ([7, 8, 1, 0, 33] : List Nat)[(0 : Half).toNat]? = some 7 ∧
    ([7, 8, 1, 0, 33] : List Nat)[(4 : Half).toNat]? = some 33 := by decide
/-- Both clauses at both ends. -/
theorem witness_NeverIssuedCodesStop :
    6 ≤ (6#3).toNat ∧ 6 ≤ (7#3).toNat ∧ 5 ≤ (5 : Half).toNat ∧ 5 ≤ (0xFFFF : Half).toNat := by decide
/-- The four cases: a signal behind a held-off one, a signal that stands for nothing, reset, nothing enabled. -/
theorem witness_StepExecutesTheFirstEnabledSignal :
    enabled .txOnair (.signal (.command 0x0700 []) none) = false ∧ enabled .txOnair (.signal .txDone none) = true ∧
    (presented [.command 0x0700 [], .txDone] onAir).inputs =
      [.signal (.command 0x0700 []) none] ++ .signal .txDone none :: [] ∧
    decode .txDone = .ok .txDone ∧
    enabled .idle (.signal (.radio 9 .none) none) = true ∧ decode (.radio 9 .none) = .error (.unusedRequestCode 9) ∧
    ({ base with inputs := [.reset] } : State).inputs = [] ++ .reset :: [] ∧ base.inputs = [] := by decide
theorem witness_CommandsAreHeldOffOnAir :
    onAir.ctl_phase = .txOnair ∧ (Instr.nop 0).isCommand = true ∧
    (nextOf (step (presented [.command 0x0000 [], .tick] onAir))).isSome = true := by decide
theorem witness_TxDoneHasNoStepInIdle :
    base.ctl_phase = .idle ∧ (nextOf (step (presented [.txDone, .tick] base))).isSome = true := by decide
theorem witness_UnusedImmediateBitsAreIgnored :
    (0x01#8).toNat % 2 = (0xFF#8).toNat % 2 ∧ (0x0B#8).toNat % 16 = (0xFB#8).toNat % 16 := by decide
theorem witness_DecodedInstructionsAreWellFormed : decode (.tickState 0 4) = .ok (.tsPeek 4) := by decide
/-- The terms whose form is checked, each at the end of its range. -/
theorem witness_DecodeEncodeAgree :
    (Instr.reserved 9 0).wellFormed = true ∧ (Instr.tsPeek 4).wellFormed = true ∧ (Instr.tsReserved 6).wellFormed = true ∧
    (Instr.qSetKey (keyHead ++ [0])).wellFormed = true := by decide
theorem witness_CommandWordsReencode :
    decode (.command 0x0500 [1]) = .ok (.submit 0 [1]) ∧ (0x0500 : Half).toNat / 256 = 5 := by decide
theorem witness_TicksAfterResetOnlyRaiseTheGuard : fx1.Legal := fx1_legal

/-- The reset state with `START` presented. -/
def startPresented : State := presented [.command 0x0100 []] base

/-- The invariants hold of it. -/
theorem startPresented_inv : Inv startPresented where
  legal := fx1_legal
  rxCountdown := by decide
  txCountdown := by decide
  guard := by decide
  slot := by decide
  misses := by decide
  rxFrame := by decide
  selector := ⟨0, by decide, by decide⟩
  txFrame := fun h => absurd h (by decide)
  rxLength := by decide
  txLength := by decide
  external := by decide

theorem witness_StepKeepsTheInvariants : Inv startPresented ∧ (nextOf (step startPresented)).isSome = true :=
  ⟨startPresented_inv, by decide⟩
theorem witness_ParametersNeverChange :
    (nextOf (step startPresented)).isSome = true := by decide
theorem witness_PlatformRequestsAreNeverIssued :
    (∀ i ∈ (presented [.command 0x030B []] base).inputs, i.external = true) ∧
    (nextOf (step (presented [.command 0x030B []] base))).isSome = true ∧
    (∀ q ∈ (presented [.command 0x030B []] base).radio_log, q.code ≠ 0 ∧ q.code ≠ 1 ∧ q.code ≠ 3) := by decide
theorem witness_EveryAcceptedCommandGetsOneResponse :
    (Instr.step 0).isCommand = true ∧ (txAt 0 true 50 0 true).ctl_phase = .idle ∧
    (nextOf (exec (.step 0) (txAt 0 true 50 0 true))).isSome = true ∧ (nextOf (exec .txDone onAir)).isSome = true := by
  decide
theorem witness_UnsuccessfulCommandsWriteNothing :
    (Instr.take 0).isCommand = true ∧ base.ctl_phase = .idle ∧
    (base.rx_ready = true → base.cfg.verify base.rx_buf = true) ∧
    after (.take 0) base State.response_log = some (base.response_log ++ [⟨.notReady, .none⟩]) := by decide
theorem witness_WritePartitionOfTickState :
    (nextOf (exec .tick base)).isSome = true ∧ (Instr.start 0).isTransition = true ∧ Instr.start 0 ≠ .tick ∧
    (nextOf (exec (.start 0) base)).isSome = true := by decide
theorem witness_EveryFieldHasItsWriters :
    (Instr.start 0).isTransition = true ∧ (nextOf (exec (.start 0) base)).isSome = true := by decide
theorem witness_RequestSequencesAreTheListedOnes :
    (Instr.txDone).isTransition = true ∧ (nextOf (exec .txDone onAir)).isSome = true := by decide
theorem witness_EncodedFramesVerify :
    fx1.Legal ∧ ([1, 2, 3, 4] : List Byte).length = fx1.N - 2 ∧
    Config.smallest.Legal ∧ ([1] : List Byte).length = Config.smallest.N - 2 :=
  ⟨fx1_legal, by decide⟩
/-- The first bit of the payload and the last bit of the checksum. -/
theorem witness_SingleBitErrorsAreDetected :
    fx1.Legal ∧ ([1, 2, 3, 4] : List Byte).length = fx1.N - 2 ∧ (0 < fx1.N ∧ 0 < 8) ∧ (5 < fx1.N ∧ 7 < 8) :=
  ⟨fx1_legal, by decide⟩
theorem witness_EverySequenceVisitsEveryChannelOnce :
    fx1.Legal ∧ (0#8).toNat < fx1.M ∧ (4#8).toNat < fx1.M :=
  ⟨fx1_legal, by decide⟩
theorem witness_LinearRomHoldsTheTable : fx1.Legal ∧ (0 < 8 ∧ 0 < fx1.M) ∧ (7 < 8 ∧ 4 < fx1.M) :=
  ⟨fx1_legal, by decide⟩
theorem witness_FrequenciesNeverWrap : fx1.Legal ∧ (4#8).toNat < fx1.M :=
  ⟨fx1_legal, by decide⟩
theorem witness_TickConstants : (fx1.Legal ∧ fx1.TICK_UNITS = 1) ∧ (fx2.Legal ∧ fx2.TICK_UNITS = 2) :=
  ⟨⟨fx1_legal, by decide⟩, fx2_legal, by decide⟩
theorem witness_KeyByteStandsAtItsPosition : fx1.Legal ∧ 15 < 16 ∧ 15 = fx1.KEY_POS ∧ 0 ≠ fx1.KEY_POS :=
  ⟨fx1_legal, by decide⟩
/-- The shortest countdown and the longest. -/
theorem witness_CountdownTimingLaw :
    (1 : Half) ≠ 0 ∧ 0 < (1 : Half).toNat ∧ (0xFFFF : Half) ≠ 0 ∧ 65534 < (0xFFFF : Half).toNat := by decide
/-- Both clauses, at 20 and at 21 misses, from a running countdown and from an expiry still to be taken. -/
theorem witness_MissedHopsParkTheReceiver :
    fx1.Legal ∧ (rxAt 0 0 50 false quiet).ctl_phase = .idle ∧ (rxAt 0 0 50 false quiet).role = false ∧
    (rxAt 0 0 50 false quiet).channel_index.toNat < fx1.M ∧ (rxAt 0 0 50 false quiet).missed_hop_count = 0 ∧
    (rxAt 0 0 50 false quiet).rx_countdown ≠ 0 ∧ (rxAt 0 0 0 true quiet).rx_expired = true ∧ (List.replicate 20 quiet).length ≤ 20 ∧
    20 < (List.replicate 21 quiet).length ∧ (∀ a ∈ List.replicate 21 quiet, a.avail = false) :=
  ⟨fx1_legal, by decide⟩
/-- The countdown running and waited out to its last tick; and already expired. -/
theorem witness_TheReceiveWaitIsBounded :
    (rxAt 2 3 17 false quiet).ctl_phase = .idle ∧ (rxAt 2 3 17 false quiet).role = false ∧
    (rxAt 2 3 17 false quiet).rx_countdown ≠ 0 ∧ (rxAt 2 3 17 false quiet).rx_countdown.toNat ≤ 17 ∧
    (rxAt 2 3 0 true quiet).rx_expired = true ∧ (rxAt 2 3 0 true quiet).rx_countdown.toNat ≤ 0 := by decide
theorem witness_BlankingSilencesUntilAPayload :
    fx1.Legal ∧ (txAt 10 false 0 2 false).ctl_phase = .idle ∧ (txAt 10 false 0 2 false).role = true ∧
    (txAt 10 false 0 2 false).inactivity_ticks.toNat ≤ fx1.BLANKING_TIMEOUT ∧ fx1.BLANKING_TIMEOUT ≤ 200 ∧
    ([5, 6, 7, 8] : List Byte).length = fx1.N - 2 ∧ (txAt 10 false 0 2 false).tx_pending = false ∧
    (ticks 200 (txAt 10 false 0 2 false)).tx_due = true :=
  ⟨fx1_legal, by decide +kernel⟩
/-- Both sides of the hop period: 4 ticks on air, then 45 and 46 more. -/
theorem witness_TransmitPeriodRunsFromFireToFire :
    fx1.Legal ∧ (txAt 0 true 50 0 true).ctl_phase = .idle ∧ (txAt 0 true 50 0 true).role = true ∧
    (txAt 0 true 50 0 true).blanked = false ∧ (txAt 0 true 50 0 true).tx_due = true ∧
    4 + 45 < fx1.hopTicks ∧ fx1.hopTicks ≤ 4 + 46 :=
  ⟨fx1_legal, by decide⟩
theorem witness_TxDoneAndTickCommute : onAir.ctl_phase = .txOnair := by decide
theorem witness_CollisionsKeepEveryExpiry :
    fx1.Legal ∧ (1 : Half) ≠ 0 ∧ (nextOf (exec (.tsPeek 4) base)).isSome = true :=
  ⟨fx1_legal, by decide⟩
theorem witness_StartPutsTwoStationsInStep :
    fx1.Legal ∧ base.cfg = (txAt 0 false 0 0 false).cfg ∧ (txAt 0 false 0 0 false).role = true ∧ base.role = false ∧
    (txAt 0 false 0 0 false).ctl_phase = .idle ∧ base.ctl_phase = .idle ∧
    base.hop_sequence_id = (txAt 0 false 0 0 false).hop_sequence_id ∧ (txAt 0 false 0 0 false).tx_pending = false := by
  decide
/-- The four clauses. -/
theorem witness_InputsAtTheHeadAreTaken :
    startPresented.inputs = .signal (.command 0x0100 []) none :: [] ∧ startPresented.ctl_phase = .idle ∧
    (presented [.tick] onAir).inputs = .signal .tick none :: [] ∧
    (presented [.txDone] onAir).inputs = .signal .txDone none :: [] ∧ onAir.ctl_phase = .txOnair ∧
    ({ onAir with inputs := [.reset] } : State).inputs = .reset :: [] := by decide
/-- Both ends of the count, before the first frame and after it. -/
theorem witness_ReceiveLabelsFollowTheCountAndTheFirstFrame :
    base.missed_hop_count.toNat ≤ 20 ∧ base.frame_received = false ∧
    (rxAt 0 20 0 true quiet).missed_hop_count.toNat ≤ 20 ∧
    ({ base with frame_received := true } : State).frame_received = true := by decide
theorem witness_ObservationsAreNeverRead :
    ({ base with frame_received := true, radio_log := [.avail] } : State) =
      { base with
        radio_log := [.avail], response_log := base.response_log, frame_received := true
        last_payload := base.last_payload, ts_result := base.ts_result, q_result := base.q_result
        inputs := base.inputs, turn := base.turn } ∧
    (nextOf (exec .tick base)).isSome = true := ⟨rfl, by decide⟩
theorem witness_StationsInStepStayInStep : InStep (txAt 50 false 0 0 false) (rxAt 0 0 50 false quiet) where
  legal := fx1_legal
  sameConfig := by decide
  roleA := by decide
  roleB := by decide
  idleA := by decide
  idleB := by decide
  sameSequence := by decide
  sameSlot := by decide
  slot := by decide
  armed := by decide
  notDue := by decide
  consumed := by decide

end Sys2Proof.Tests
end

section
/-! The tick constants of 00_scope.md R8, in terms of the tick duration. -/

namespace Sys2Proof.Config

theorem hopPeriod_eq : hopPeriod = 50 := by decide

theorem hopTicks_eq (c : Config) : c.hopTicks = 50 / c.TICK_UNITS := by
  rw [hopTicks, hopPeriod_eq]

/-- HIT_TICKS is truncated from the already truncated HOP_TICKS, in that order (R8). -/
theorem hitTicks_eq (c : Config) : c.hitTicks = 12 * c.hopTicks / 10 := rfl

theorem tickConstants_of_tickUnits_one {c : Config} (h : c.TICK_UNITS = 1) :
    c.hopTicks = 50 ∧ c.hitTicks = 60 := by
  have hop : c.hopTicks = 50 := by rw [hopTicks_eq, h]
  exact ⟨hop, by rw [hitTicks_eq, hop]⟩

theorem tickConstants_of_tickUnits_two {c : Config} (h : c.TICK_UNITS = 2) :
    c.hopTicks = 25 ∧ c.hitTicks = 30 := by
  have hop : c.hopTicks = 25 := by rw [hopTicks_eq, h]
  exact ⟨hop, by rw [hitTicks_eq, hop]⟩

/-- Settles O47: the values follow from the defining quotients, and the two loads keep them whole because a
legal parameter set has one of the two tick durations. -/
theorem tickConstants : Obligations.TickConstants := by
  unfold Obligations.TickConstants
  refine ⟨hopPeriod_eq, fun c hc => ?_⟩
  exact ⟨hopTicks_eq c, hitTicks_eq c, tickConstants_of_tickUnits_one, tickConstants_of_tickUnits_two,
    hopLoad_toNat hc, hitLoad_toNat hc⟩

end Sys2Proof.Config
end

section
/-! Reset (10_state.md R44): what the reset table says of the fields it does not give as a literal. -/

namespace Sys2Proof.Machine

theorem atReset_active_key_byte_toNat (c : Config) (turn : Nat) :
    (State.atReset c turn).active_key_byte.toNat = c.HOP_KEY_OFFSET % 256 := by
  simp [State.atReset]

theorem atReset_rx_buf_length (c : Config) (turn : Nat) : (State.atReset c turn).rx_buf.length = c.N :=
  Config.rxBufAtReset_length c turn

theorem atReset_tx_buf_length (c : Config) (turn : Nat) : (State.atReset c turn).tx_buf.length = c.N :=
  Config.txBufAtReset_length c turn

/-- Settles O29: the literal fields stand in `State.atReset`; `State.reset` is one such state, under the straps, which
are legal. -/
theorem resetPutsEveryFieldAtItsValue : Obligations.ResetPutsEveryFieldAtItsValue := by
  unfold Obligations.ResetPutsEveryFieldAtItsValue
  refine ⟨?_, Config.straps, Config.straps_legal, rfl⟩
  rintro c turn s rfl
  exact ⟨rfl, rfl, rfl, rfl, rfl, rfl, rfl, rfl, atReset_active_key_byte_toNat c turn, rfl, rfl,
    atReset_rx_buf_length c turn, rfl, atReset_tx_buf_length c turn, rfl, rfl, rfl⟩

end Sys2Proof.Machine
end

section
/-! The write partition of TickState (10_state.md R26): the tick counts and sets; every other transition is a chain of
shared operations, each of which loads, clears or leaves TickState alone. -/

namespace Sys2Proof.Machine

/-! ### The tick -/

theorem countDown_eq_or_pred (cnt : Half) : countDown cnt = cnt ∨ (countDown cnt).toNat + 1 = cnt.toNat := by
  by_cases h : cnt = 0
  · exact .inl (by simp [countDown, h])
  · have := countDown_toNat cnt
    exact .inr (by bv_omega)

theorem expireFlag_keeps_set (cnt : Half) {flag : Bool} (h : flag = true) : expireFlag cnt flag = true := by
  simp [expireFlag, h]

theorem guardUp_eq_or_succ (c : Config) (g : Half) : guardUp c g = g ∨ guardUp c g = g + 1 := by
  unfold guardUp
  split
  · exact .inr rfl
  · exact .inl rfl

/-! ### The other transitions -/

/-- The five fields of TickState (R21 to R25). -/
def State.timers (s : State) : Half × Half × Bool × Bool × Half :=
  (s.rx_countdown, s.tx_countdown, s.rx_expired, s.tx_due, s.inactivity_ticks)

/-- What R26 lets the control context do to TickState on the way from `s` to `t`. -/
structure LoadsAndClears (s t : State) : Prop where
  rxCountdown : t.rx_countdown = s.rx_countdown ∨ t.rx_countdown = s.cfg.hopLoad ∨ t.rx_countdown = s.cfg.hitLoad
  txCountdown : t.tx_countdown = s.tx_countdown ∨ t.tx_countdown = s.cfg.hopLoad
  rxExpired : t.rx_expired = true → s.rx_expired = true
  txDue : t.tx_due = true → s.tx_due = true
  guard : t.inactivity_ticks = s.inactivity_ticks ∨ t.inactivity_ticks = 0

namespace LoadsAndClears

variable {s t t' : State} {v : Half}

theorem refl (s : State) : LoadsAndClears s s := ⟨.inl rfl, .inl rfl, id, id, .inl rfl⟩

/-- An operation outside TickState: a response, a request, a write to another field. -/
theorem of_timers_eq (h : LoadsAndClears s t) (eq : t'.timers = t.timers) : LoadsAndClears s t' := by
  simp only [State.timers, Prod.mk.injEq] at eq
  obtain ⟨hrx, htx, hexp, hdue, hguard⟩ := eq
  constructor
  · rw [hrx]; exact h.rxCountdown
  · rw [htx]; exact h.txCountdown
  · rw [hexp]; exact h.rxExpired
  · rw [hdue]; exact h.txDue
  · rw [hguard]; exact h.guard

theorem armRx (h : LoadsAndClears s t) (hv : v = s.cfg.hopLoad ∨ v = s.cfg.hitLoad) :
    LoadsAndClears s (tsArmRx v t) := ⟨.inr hv, h.txCountdown, h.rxExpired, h.txDue, h.guard⟩

theorem armTx (h : LoadsAndClears s t) (hv : v = s.cfg.hopLoad) : LoadsAndClears s (tsArmTx v t) :=
  ⟨h.rxCountdown, .inr hv, h.rxExpired, h.txDue, h.guard⟩

theorem takeRx (h : LoadsAndClears s t) : LoadsAndClears s (tsTakeRx t).2 :=
  ⟨h.rxCountdown, h.txCountdown, nofun, h.txDue, h.guard⟩

theorem takeTx (h : LoadsAndClears s t) : LoadsAndClears s (tsTakeTx t).2 :=
  ⟨h.rxCountdown, h.txCountdown, h.rxExpired, nofun, h.guard⟩

theorem guardClr (h : LoadsAndClears s t) : LoadsAndClears s (tsGuardClr t) :=
  ⟨h.rxCountdown, h.txCountdown, h.rxExpired, h.txDue, .inr rfl⟩

end LoadsAndClears

/-- A body that loads and clears still does so behind the acceptance of commands (R82). -/
theorem accept_loadsAndClears {body : State → State} {s t : State} (hbody : LoadsAndClears s (body s))
    (h : accept body s = .next t) : LoadsAndClears s t := by
  obtain ⟨-, rfl⟩ | ⟨-, rfl⟩ := accept_cases h
  · exact hbody
  · exact .refl _

theorem respond_loadsAndClears (code : RespCode) (data : RespData) (s : State) :
    LoadsAndClears s (respond code data s) := (LoadsAndClears.refl s).of_timers_eq rfl

theorem execCfgRole_loadsAndClears (imm : Byte) {s t : State} (h : execCfgRole imm s = .next t) :
    LoadsAndClears s t := by
  unfold execCfgRole at h
  refine accept_loadsAndClears ?_ h
  exact (LoadsAndClears.refl s).of_timers_eq rfl

theorem execClrGuard_loadsAndClears (imm : Byte) {s t : State} (h : execClrGuard imm s = .next t) :
    LoadsAndClears s t := by
  unfold execClrGuard at h
  refine accept_loadsAndClears ?_ h
  exact (LoadsAndClears.refl s).guardClr.of_timers_eq rfl

theorem start_loadsAndClears (s : State) : LoadsAndClears s (start s) := by
  have slotZero : LoadsAndClears s { s with channel_index := 0, missed_hop_count := 0 } :=
    (LoadsAndClears.refl s).of_timers_eq rfl
  have timers : LoadsAndClears s (startTimers s) := ((slotZero.armRx (.inl rfl)).armTx rfl).takeRx.takeTx
  exact timers.of_timers_eq rfl

theorem cfgSel_loadsAndClears (sel : Byte) (s : State) : LoadsAndClears s (cfgSel sel s) := by
  obtain ⟨-, h⟩ | ⟨-, h⟩ := cfgSel_cases sel s <;> rw [h] <;> exact (LoadsAndClears.refl s).of_timers_eq rfl

theorem submit_loadsAndClears (payload : List Byte) (s : State) : LoadsAndClears s (submit payload s) := by
  obtain ⟨-, h⟩ | ⟨-, -, h⟩ | ⟨-, -, h⟩ := submit_cases payload s <;> rw [h]
  · exact respond_loadsAndClears ..
  · exact respond_loadsAndClears ..
  · exact (LoadsAndClears.refl s).guardClr.of_timers_eq rfl

theorem takeFrame_loadsAndClears (s : State) : LoadsAndClears s (takeFrame s) := by
  obtain ⟨-, h⟩ | ⟨-, -, h⟩ | ⟨-, -, h⟩ := takeFrame_cases s <;> rw [h] <;>
    exact (LoadsAndClears.refl s).of_timers_eq rfl

theorem status_loadsAndClears (f : Byte) (s : State) : LoadsAndClears s (status f s) := by
  obtain ⟨v, -, h⟩ | ⟨-, h⟩ := status_cases f s <;> rw [h] <;> exact respond_loadsAndClears ..

/-- A hit and a miss both end by clearing the expiry flag (43_linksynchronizer.md R175). -/
theorem LoadsAndClears.rxFinish {s t : State} (h : LoadsAndClears s t) : LoadsAndClears s (rxFinish t) :=
  h.takeRx.of_timers_eq rfl

/-- A miss arms for one hop period, at the cap and below it (R174). -/
theorem LoadsAndClears.rxMiss {s t : State} (h : LoadsAndClears s t) (hcfg : t.cfg = s.cfg) :
    LoadsAndClears s (rxMiss t) := by
  have armed : LoadsAndClears s (tsArmRx t.cfg.hopLoad t) := h.armRx (.inl (by rw [hcfg]))
  unfold Machine.rxMiss
  split <;> exact armed.of_timers_eq rfl

theorem rxStep_loadsAndClears (s : State) : LoadsAndClears s (rxStep s) := by
  obtain ⟨log, hpoll, -⟩ := rxPoll_cases s
  have polled : LoadsAndClears s (rxPoll s).2 := by rw [hpoll]; exact (LoadsAndClears.refl s).of_timers_eq rfl
  have hcfg : (rxPoll s).2.cfg = s.cfg := by rw [hpoll]
  obtain ⟨frame, -, h⟩ | ⟨-, -, h⟩ | ⟨-, -, h⟩ := rxStep_cases s <;> rw [h]
  · have committed : LoadsAndClears s (advanceSlot (rxCommit frame (rxPoll s).2)) := polled.of_timers_eq rfl
    exact (committed.armRx (.inr (congrArg Config.hitLoad hcfg))).rxFinish
  · have advanced : LoadsAndClears s (advanceSlot (rxPoll s).2) := polled.of_timers_eq rfl
    exact (advanced.rxMiss hcfg).rxFinish
  · exact polled.of_timers_eq rfl

theorem txStep_loadsAndClears (s : State) : LoadsAndClears s (txStep s) := by
  obtain ⟨-, h⟩ | ⟨-, h⟩ := txStep_cases s <;> rw [h]
  · exact respond_loadsAndClears ..
  · exact ((LoadsAndClears.refl s).armTx rfl).takeTx.of_timers_eq rfl

theorem controlStep_loadsAndClears (s : State) : LoadsAndClears s (controlStep s) := by
  obtain ⟨-, -, h⟩ | ⟨-, -, h⟩ | ⟨-, h⟩ := controlStep_cases s <;> rw [h]
  · exact respond_loadsAndClears ..
  · exact txStep_loadsAndClears s
  · exact rxStep_loadsAndClears s

theorem execTxDone_loadsAndClears {s t : State} (h : execTxDone s = .next t) : LoadsAndClears s t := by
  obtain ⟨-, rfl⟩ := execTxDone_cases h
  exact (LoadsAndClears.refl s).of_timers_eq rfl

theorem exec_loadsAndClears {i : Instr} {s t : State} (htrans : i.isTransition = true) (htick : i ≠ .tick)
    (h : exec i s = .next t) : LoadsAndClears s t := by
  cases i with
  | nop | reserved => exact accept_loadsAndClears (respond_loadsAndClears ..) h
  | cfgRole imm => exact execCfgRole_loadsAndClears imm h
  | clrGuard imm => exact execClrGuard_loadsAndClears imm h
  | start => exact accept_loadsAndClears (start_loadsAndClears s) h
  | cfgSel sel => exact accept_loadsAndClears (cfgSel_loadsAndClears sel s) h
  | submit _ payload => exact accept_loadsAndClears (submit_loadsAndClears payload s) h
  | take => exact accept_loadsAndClears (takeFrame_loadsAndClears s) h
  | step => exact accept_loadsAndClears (controlStep_loadsAndClears s) h
  | status f => exact accept_loadsAndClears (status_loadsAndClears f s) h
  | txDone => exact execTxDone_loadsAndClears h
  | tick => exact absurd rfl htick
  | tsPeek | tsArmRx | tsArmTx | tsTakeRx | tsTakeTx | tsGuardClr | tsReserved => cases htrans
  | qReset | qConfigure | qSetFreq | qSetPower | qSetKey | qAvail | qRecv | qXmit | qWaitDone => cases htrans

/-- Settles O37: the tick's part field by field from R110, the rest from `LoadsAndClears` of every other transition. -/
theorem writePartitionOfTickState : Obligations.WritePartitionOfTickState := by
  unfold Obligations.WritePartitionOfTickState
  constructor
  · intro s t h
    obtain rfl : tickState s = t := Host.Outcome.next.inj h
    exact ⟨countDown_eq_or_pred _, countDown_eq_or_pred _, expireFlag_keeps_set _, expireFlag_keeps_set _,
      guardUp_eq_or_succ _ _⟩
  · intro i s t htrans htick h
    obtain ⟨hrx, htx, hexp, hdue, hguard⟩ := exec_loadsAndClears htrans htick h
    exact ⟨hrx, htx, hexp, hdue, hguard⟩

end Sys2Proof.Machine
end

section
/-! The HopTable under a legal parameter set (20_memory.md R50 to R52): each of the eight rows stands, and read through
`rom` it is a permutation of the channels; concatenated, the rows have entry `(id, slot)` at `id * M + slot`. -/

namespace Sys2Proof

/-- Position `id * m + slot` of a concatenation of rows of one length `m` is position `slot` of row `id`. -/
theorem getElem?_flatten_of_length_eq {α : Type} {m slot : Nat} (hslot : slot < m) {rows : List (List α)}
    (hrows : ∀ row ∈ rows, row.length = m) (id : Nat) :
    rows.flatten[id * m + slot]? = rows[id]?.bind (·[slot]?) := by
  induction rows generalizing id with
  | nil => simp
  | cons row rows ih =>
    obtain ⟨hrow, hrest⟩ := List.forall_mem_cons.mp hrows
    cases id with
    | zero => simp [List.getElem?_append_left (hrow ▸ hslot)]
    | succ id =>
      have hpast : (id + 1) * m + slot = row.length + (id * m + slot) := by rw [hrow]; ring
      simp [hpast, List.getElem?_append_right, ih hrest]

namespace Config

/-! ### Rows -/

theorem exists_row_of_legal {c : Config} (h : c.Legal) {id : Nat} (hid : id < SEQ_COUNT) :
    ∃ row, c.HOP_ROM[id]? = some row ∧ RowPermutes c.M row := by
  obtain ⟨-, -, ⟨hlen, hrows⟩, -⟩ := h
  have hid' : id < c.HOP_ROM.length := hlen.symm ▸ hid
  exact ⟨c.HOP_ROM[id], List.getElem?_eq_getElem hid', hrows _ (List.getElem_mem hid')⟩

theorem getElem?_row_eq_rom {c : Config} {id slot : Nat} {row : List Byte} (hrow : c.HOP_ROM[id]? = some row)
    (hslot : slot < row.length) : row[slot]? = some (c.rom id slot) := by
  obtain ⟨hid, rfl⟩ := List.getElem?_eq_some_iff.mp hrow
  rw [rom_eq_getElem hid hslot, List.getElem?_eq_getElem hslot]

/-! ### Every sequence is a bijection (R51) -/

/-- The bytes below `M`: the slots of a cycle, and the channels. -/
def belowM (c : Config) : Set Byte := {b | b.toNat < c.M}

@[simp] theorem mem_belowM {c : Config} {b : Byte} : b ∈ c.belowM ↔ b.toNat < c.M := Iff.rfl

theorem seq_mapsTo {c : Config} (h : c.Legal) (id : BitVec 3) : Set.MapsTo (c.seq id) c.belowM c.belowM := by
  obtain ⟨row, hrow, hlen, hrange, -⟩ := exists_row_of_legal h id.isLt
  intro slot hslot
  have hentry : row[slot.toNat]? = some (c.seq id slot) := getElem?_row_eq_rom hrow (hlen.symm ▸ mem_belowM.mp hslot)
  exact mem_belowM.mpr (hrange _ (List.mem_of_getElem? hentry))

theorem seq_injOn {c : Config} (h : c.Legal) (id : BitVec 3) : Set.InjOn (c.seq id) c.belowM := by
  obtain ⟨row, hrow, hlen, -, hnodup⟩ := exists_row_of_legal h id.isLt
  have inRow : ∀ slot ∈ c.belowM, slot.toNat < row.length := fun slot hslot =>
    hlen.symm ▸ mem_belowM.mp hslot
  intro slot hslot slot' hslot' heq
  have hentry : row[slot.toNat]? = row[slot'.toNat]? := by
    rw [getElem?_row_eq_rom hrow (inRow _ hslot), getElem?_row_eq_rom hrow (inRow _ hslot')]
    exact congrArg some heq
  exact BitVec.eq_of_toNat_eq ((List.getElem?_inj (inRow _ hslot) hnodup).mp hentry)

/-- A sequence maps the finite set of the bytes below `M` into itself without repeating a value, so it reaches every
channel. -/
theorem seq_bijOn {c : Config} (h : c.Legal) (id : BitVec 3) : Set.BijOn (c.seq id) c.belowM c.belowM :=
  ((Set.toFinite c.belowM).injOn_iff_bijOn_of_mapsTo (seq_mapsTo h id)).mp (seq_injOn h id)

/-- Settles O44: surjectivity of `seq_bijOn` gives the slot, injectivity says there is no other. -/
theorem everySequenceVisitsEveryChannelOnce : Obligations.EverySequenceVisitsEveryChannelOnce := by
  unfold Obligations.EverySequenceVisitsEveryChannelOnce
  intro c id h
  simp only [← mem_belowM]
  obtain ⟨hmaps, hinj, hsurj⟩ := seq_bijOn h id
  refine ⟨fun slot hslot => hmaps hslot, fun ch hch => ?_⟩
  obtain ⟨slot, hslot, rfl⟩ := hsurj hch
  exact ⟨slot, ⟨hslot, rfl⟩, fun slot' ⟨hslot', heq⟩ => hinj hslot' hslot heq⟩

/-! ### The linear ROM (R52) -/

theorem romLinear_length {c : Config} (h : c.Legal) : c.romLinear.length = 8 * c.M := by
  obtain ⟨-, -, ⟨hlen, hrows⟩, -⟩ := h
  have hconst : ∀ n ∈ c.HOP_ROM.map List.length, n = c.M :=
    List.forall_mem_map.mpr fun row hrow => (hrows row hrow).1
  rw [romLinear, List.length_flatten, List.sum_eq_card_nsmul _ _ hconst, List.length_map, hlen]
  rfl

theorem romLinear_getElem?_romAddr {c : Config} (h : c.Legal) {id slot : Nat} (hid : id < 8) (hslot : slot < c.M) :
    c.romLinear[c.romAddr id slot]? = some (c.rom id slot) := by
  obtain ⟨row, hrow, hlen, -⟩ := exists_row_of_legal h hid
  obtain ⟨-, -, ⟨-, hrows⟩, -⟩ := h
  rw [romLinear, romAddr, getElem?_flatten_of_length_eq hslot fun row hrow => (hrows row hrow).1, hrow]
  exact getElem?_row_eq_rom hrow (hlen.symm ▸ hslot)

/-- Settles O45: the address holds an entry, so it lies below the length of the ROM. -/
theorem linearRomHoldsTheTable : Obligations.LinearRomHoldsTheTable := by
  unfold Obligations.LinearRomHoldsTheTable
  intro c id slot h hid hslot
  have hlen := romLinear_length h
  have hentry := romLinear_getElem?_romAddr h hid hslot
  obtain ⟨haddr, -⟩ := List.getElem?_eq_some_iff.mp hentry
  exact ⟨hlen, hlen ▸ haddr, hentry⟩

end Config

end Sys2Proof
end

section
/-! What the proofs about `radio_log` and `response_log` share: the parts of a receive step, the body of every command,
and what an outside input decodes to. -/

namespace Sys2Proof.Machine

/-! ### The parts of a receive step -/

@[simp] theorem rxPoll_ctl_phase (s : State) : (rxPoll s).2.ctl_phase = s.ctl_phase := by
  obtain ⟨log, hpoll, -⟩ := rxPoll_cases s
  rw [hpoll]

@[simp] theorem rxPoll_response_log (s : State) : (rxPoll s).2.response_log = s.response_log := by
  obtain ⟨log, hpoll, -⟩ := rxPoll_cases s
  rw [hpoll]

@[simp] theorem rxMiss_ctl_phase (s : State) : (rxMiss s).ctl_phase = s.ctl_phase := by
  unfold rxMiss
  split <;> rfl

@[simp] theorem rxMiss_radio_log (s : State) : (rxMiss s).radio_log = s.radio_log := by
  unfold rxMiss
  split <;> rfl

@[simp] theorem rxMiss_response_log (s : State) : (rxMiss s).response_log = s.response_log := by
  unfold rxMiss
  split <;> rfl

/-! ### Commands and events -/

/-- What a command does once it is accepted (R82); nothing for the other operations. -/
def commandBody : Instr → State → State
  | .nop _ => respond .ok .none
  | .start _ => start
  | .cfgRole imm => fun s => respond .ok .none { s with role := roleOfImm imm }
  | .cfgSel imm => cfgSel imm
  | .clrGuard _ => fun s => respond .ok .none (tsGuardClr s)
  | .submit _ payload => submit payload
  | .take _ => takeFrame
  | .step _ => controlStep
  | .status imm => status imm
  | .reserved _ _ => respond .illegal .none
  | _ => id

theorem exec_eq_accept_commandBody {i : Instr} (hcmd : i.isCommand = true) (s : State) :
    exec i s = accept (commandBody i) s := by
  cases i with
  | nop | start | cfgRole | cfgSel | clrGuard | submit | take | step | status | reserved => rfl
  | tick | txDone => cases hcmd
  | tsPeek | tsArmRx | tsArmTx | tsTakeRx | tsTakeTx | tsGuardClr | tsReserved => cases hcmd
  | qReset | qConfigure | qSetFreq | qSetPower | qSetKey | qAvail | qRecv | qXmit | qWaitDone => cases hcmd

/-- A transition is a command or one of the two events (00_scope.md R11). -/
theorem isTransition_cases {i : Instr} (htrans : i.isTransition = true) :
    i.isCommand = true ∨ i = .tick ∨ i = .txDone := by
  cases i with
  | nop | start | cfgRole | cfgSel | clrGuard | submit | take | step | status | reserved => exact .inl rfl
  | tick => exact .inr (.inl rfl)
  | txDone => exact .inr (.inr rfl)
  | tsPeek | tsArmRx | tsArmTx | tsTakeRx | tsTakeTx | tsGuardClr | tsReserved => cases htrans
  | qReset | qConfigure | qSetFreq | qSetPower | qSetKey | qAvail | qRecv | qXmit | qWaitDone => cases htrans

/-! ### Inputs from outside -/

theorem decodeCommand_isTransition (w : Half) (operand : List Byte) :
    (decodeCommand w operand).isTransition = true := by
  unfold decodeCommand
  split <;> rfl

/-- What comes from outside the block decodes to a command or an event (R80). -/
theorem isTransition_of_decode_external {sig : Signal} {a : Option Answers} {i : Instr}
    (hext : (Input.signal sig a).external = true) (hdec : decode sig = .ok i) : i.isTransition = true := by
  cases sig with
  | command w operand =>
    obtain rfl : decodeCommand w operand = i := Except.ok.inj hdec
    exact decodeCommand_isTransition w operand
  | tick | txDone => cases hdec; rfl
  | tickState | radio => cases hext

theorem mem_of_takeEnabled {p : Phase} {l : List Input} {i : Input} {others : List Input}
    (h : takeEnabled p l = some (i, others)) : i ∈ l := by
  obtain ⟨held, later, rfl, -⟩ := takeEnabled_some h
  simp

end Sys2Proof.Machine
end

section
/-! Requests (30_encoding.md R89): the block makes six of the nine kinds, the platform the other three. -/

namespace Sys2Proof.Machine

/-- The requests the block makes itself; the other three belong to the platform. -/
def Request.isOwn : Request → Bool
  | .setFreq _ | .setKey _ | .avail | .recv | .xmit _ _ | .waitDone => true
  | .reset | .configure _ | .setPower _ _ => false

theorem Request.isOwn_iff (q : Request) : q.isOwn = true ↔ q.code ≠ 0 ∧ q.code ≠ 1 ∧ q.code ≠ 3 := by
  cases q <;> simp [Request.isOwn, Request.code]

/-- Every request in `radio_log` is one of the block's own. -/
def State.OwnRequestsOnly (s : State) : Prop := ∀ q ∈ s.radio_log, q.isOwn = true

namespace State.OwnRequestsOnly

variable {s t : State}

/-- An operation that makes no request: a response, a micro-operation, a write to another field. -/
theorem of_radio_log_eq (h : s.OwnRequestsOnly) (eq : t.radio_log = s.radio_log) : t.OwnRequestsOnly := by
  unfold State.OwnRequestsOnly
  rw [eq]
  exact h

theorem append (h : s.OwnRequestsOnly) {made : List Request} (eq : t.radio_log = s.radio_log ++ made)
    (hmade : ∀ q ∈ made, q.isOwn = true) : t.OwnRequestsOnly := by
  unfold State.OwnRequestsOnly
  rw [eq]
  exact List.forall_mem_append.mpr ⟨h, hmade⟩

theorem request (h : s.OwnRequestsOnly) {q : Request} (hq : q.isOwn = true) : (request q s).OwnRequestsOnly :=
  h.append rfl (List.forall_mem_singleton.mpr hq)

theorem retune (h : s.OwnRequestsOnly) : (retune s).OwnRequestsOnly := h.request rfl

theorem start (h : s.OwnRequestsOnly) : (start s).OwnRequestsOnly := by
  have timers : (startTimers s).OwnRequestsOnly := h.of_radio_log_eq rfl
  exact (timers.request rfl).retune.of_radio_log_eq rfl

theorem cfgSel (h : s.OwnRequestsOnly) (sel : Byte) : (cfgSel sel s).OwnRequestsOnly := by
  obtain ⟨-, hsel⟩ | ⟨-, hsel⟩ := cfgSel_cases sel s <;> rw [hsel]
  · exact h.of_radio_log_eq rfl
  · exact h.append rfl (List.forall_mem_singleton.mpr rfl)

theorem submit (h : s.OwnRequestsOnly) (payload : List Byte) : (submit payload s).OwnRequestsOnly := by
  obtain ⟨-, hsub⟩ | ⟨-, -, hsub⟩ | ⟨-, -, hsub⟩ := submit_cases payload s <;> rw [hsub] <;>
    exact h.of_radio_log_eq rfl

theorem takeFrame (h : s.OwnRequestsOnly) : (takeFrame s).OwnRequestsOnly := by
  obtain ⟨-, htake⟩ | ⟨-, -, htake⟩ | ⟨-, -, htake⟩ := takeFrame_cases s <;> rw [htake] <;>
    exact h.of_radio_log_eq rfl

theorem status (h : s.OwnRequestsOnly) (f : Byte) : (status f s).OwnRequestsOnly := by
  obtain ⟨v, -, hstat⟩ | ⟨-, hstat⟩ := status_cases f s <;> rw [hstat] <;> exact h.of_radio_log_eq rfl

theorem rxPoll (h : s.OwnRequestsOnly) : (rxPoll s).2.OwnRequestsOnly := by
  obtain ⟨made, hpoll, ⟨rfl, -⟩ | ⟨rfl, -⟩ | ⟨rfl, -⟩⟩ := rxPoll_cases s <;> rw [hpoll] <;>
    exact h.append rfl (by simp [Request.isOwn])

theorem rxFinish (h : s.OwnRequestsOnly) : (rxFinish s).OwnRequestsOnly := by
  have taken : (tsTakeRx s).2.OwnRequestsOnly := h.of_radio_log_eq rfl
  exact taken.retune.of_radio_log_eq rfl

theorem rxStep (h : s.OwnRequestsOnly) : (rxStep s).OwnRequestsOnly := by
  obtain ⟨frame, -, hrx⟩ | ⟨-, -, hrx⟩ | ⟨-, -, hrx⟩ := rxStep_cases s <;> rw [hrx]
  · have hit : (rxHit (advanceSlot (rxCommit frame (Machine.rxPoll s).2))).OwnRequestsOnly :=
      h.rxPoll.of_radio_log_eq rfl
    exact hit.rxFinish
  · have miss : (rxMiss (advanceSlot (Machine.rxPoll s).2)).OwnRequestsOnly :=
      h.rxPoll.of_radio_log_eq (rxMiss_radio_log _)
    exact miss.rxFinish
  · exact h.rxPoll.of_radio_log_eq rfl

theorem txFire (h : s.OwnRequestsOnly) : (txFire s).OwnRequestsOnly := by
  have armed : (tsTakeTx (tsArmTx s.cfg.hopLoad s)).2.OwnRequestsOnly := h.of_radio_log_eq rfl
  have sent := armed.request (q := .xmit s.tx_buf s.cfg.N) rfl
  exact (sent.request (q := .waitDone) rfl).of_radio_log_eq rfl

theorem controlStep (h : s.OwnRequestsOnly) : (controlStep s).OwnRequestsOnly := by
  obtain ⟨-, -, hstep⟩ | ⟨-, -, hstep⟩ | ⟨-, hstep⟩ := controlStep_cases s <;> rw [hstep]
  · exact h.of_radio_log_eq rfl
  · obtain ⟨-, htx⟩ | ⟨-, htx⟩ := txStep_cases s <;> rw [htx]
    · exact h.of_radio_log_eq rfl
    · exact h.txFire
  · exact h.rxStep

theorem txFinish (h : s.OwnRequestsOnly) : (txFinish s).OwnRequestsOnly := by
  have advanced : (advanceSlot s).OwnRequestsOnly := h.of_radio_log_eq rfl
  exact advanced.retune.of_radio_log_eq rfl

theorem commandBody (h : s.OwnRequestsOnly) (i : Instr) : (commandBody i s).OwnRequestsOnly := by
  cases i with
  | nop | cfgRole | clrGuard | reserved => exact h.of_radio_log_eq rfl
  | start => exact h.start
  | cfgSel sel => exact h.cfgSel sel
  | submit _ payload => exact h.submit payload
  | take => exact h.takeFrame
  | step => exact h.controlStep
  | status f => exact h.status f
  | tick | txDone => exact h
  | tsPeek | tsArmRx | tsArmTx | tsTakeRx | tsTakeTx | tsGuardClr | tsReserved => exact h
  | qReset | qConfigure | qSetFreq | qSetPower | qSetKey | qAvail | qRecv | qXmit | qWaitDone => exact h

theorem exec {i : Instr} (h : s.OwnRequestsOnly) (htrans : i.isTransition = true) (hexec : exec i s = .next t) :
    t.OwnRequestsOnly := by
  obtain hcmd | rfl | rfl := isTransition_cases htrans
  · rw [exec_eq_accept_commandBody hcmd] at hexec
    obtain ⟨-, rfl⟩ | ⟨-, rfl⟩ := accept_cases hexec
    · exact h.commandBody i
    · exact h
  · obtain rfl : tickState s = t := Host.Outcome.next.inj hexec
    exact h.of_radio_log_eq rfl
  · obtain ⟨-, rfl⟩ := execTxDone_cases hexec
    exact h.txFinish

end State.OwnRequestsOnly

theorem State.OwnRequestsOnly.step {s t : State} (h : s.OwnRequestsOnly) (hext : ∀ i ∈ s.inputs, i.external = true)
    (hstep : step s = .next t) : t.OwnRequestsOnly := by
  obtain ⟨-, rfl⟩ | ⟨others, -, rfl⟩ | ⟨sig, a, others, i, htake, hdec, hexec⟩ := step_cases hstep
  · exact h
  · exact List.forall_mem_nil _
  · have loaded : (load others a s).OwnRequestsOnly := h.of_radio_log_eq rfl
    exact loaded.exec (isTransition_of_decode_external (hext _ (mem_of_takeEnabled htake)) hdec) hexec

/-- Settles O34: the three codes are those of the requests that are not the block's own, and a step on outside inputs
keeps `OwnRequestsOnly`. -/
theorem platformRequestsAreNeverIssued : Obligations.PlatformRequestsAreNeverIssued := by
  unfold Obligations.PlatformRequestsAreNeverIssued
  simp only [← Request.isOwn_iff]
  intro s t hext hstep hlog
  exact State.OwnRequestsOnly.step hlog hext hstep

end Sys2Proof.Machine
end

section
/-! Responses (30_encoding.md R96): every command gets one; a `STEP` that fires gets it at `TX_DONE`. -/

namespace Sys2Proof.Machine

/-- One response is given on the way from `s` to `t`, and the phase stays. -/
structure AnswersOnce (s t : State) : Prop where
  phase : t.ctl_phase = s.ctl_phase
  oneResponse : ∃ r : Response, t.response_log = s.response_log ++ [r]

/-- A transmission begins, and the command that began it is not answered yet. -/
structure GoesOnAir (s t : State) : Prop where
  phase : t.ctl_phase = .txOnair
  noResponse : t.response_log = s.response_log

/-- A response ends what has given none so far and has left the phase alone. -/
theorem respond_answersOnce {s t : State} (code : RespCode) (data : RespData) (hphase : t.ctl_phase = s.ctl_phase)
    (hlog : t.response_log = s.response_log) : AnswersOnce s (respond code data t) :=
  ⟨hphase, ⟨code, data⟩, by rw [respond_response_log, hlog]⟩

theorem start_answersOnce (s : State) : AnswersOnce s (start s) := respond_answersOnce _ _ rfl rfl

theorem cfgSel_answersOnce (sel : Byte) (s : State) : AnswersOnce s (cfgSel sel s) := by
  obtain ⟨-, h⟩ | ⟨-, h⟩ := cfgSel_cases sel s <;> rw [h] <;> exact respond_answersOnce _ _ rfl rfl

theorem submit_answersOnce (payload : List Byte) (s : State) : AnswersOnce s (submit payload s) := by
  obtain ⟨-, h⟩ | ⟨-, -, h⟩ | ⟨-, -, h⟩ := submit_cases payload s <;> rw [h] <;>
    exact respond_answersOnce _ _ rfl rfl

theorem takeFrame_answersOnce (s : State) : AnswersOnce s (takeFrame s) := by
  obtain ⟨-, h⟩ | ⟨-, -, h⟩ | ⟨-, -, h⟩ := takeFrame_cases s <;> rw [h] <;> exact respond_answersOnce _ _ rfl rfl

theorem status_answersOnce (f : Byte) (s : State) : AnswersOnce s (status f s) := by
  obtain ⟨v, -, h⟩ | ⟨-, h⟩ := status_cases f s <;> rw [h] <;> exact respond_answersOnce _ _ rfl rfl

theorem rxStep_answersOnce (s : State) : AnswersOnce s (rxStep s) := by
  obtain ⟨frame, -, h⟩ | ⟨-, -, h⟩ | ⟨-, -, h⟩ := rxStep_cases s <;> rw [h]
  · exact respond_answersOnce _ _ (rxPoll_ctl_phase s) (rxPoll_response_log s)
  · exact respond_answersOnce _ _ (by simp) (by simp)
  · exact respond_answersOnce _ _ (rxPoll_ctl_phase s) (rxPoll_response_log s)

/-- `STEP` is the one command that can leave its response for later, when it fires (44_txscheduler.md R192). -/
theorem controlStep_answersOnce_or_goesOnAir (s : State) :
    AnswersOnce s (controlStep s) ∨ GoesOnAir s (controlStep s) := by
  obtain ⟨-, -, h⟩ | ⟨-, -, h⟩ | ⟨-, h⟩ := controlStep_cases s <;> rw [h]
  · exact .inl (respond_answersOnce _ _ rfl rfl)
  · obtain ⟨-, htx⟩ | ⟨-, htx⟩ := txStep_cases s <;> rw [htx]
    · exact .inl (respond_answersOnce _ _ rfl rfl)
    · exact .inr ⟨rfl, rfl⟩
  · exact .inl (rxStep_answersOnce s)

/-- The commands one by one. -/
theorem commandBody_answersOnce_or_goesOnAir {i : Instr} (hcmd : i.isCommand = true) (s : State) :
    AnswersOnce s (commandBody i s) ∨ (GoesOnAir s (commandBody i s) ∧ ∃ imm, i = .step imm) := by
  cases i with
  | nop | cfgRole | clrGuard | reserved => exact .inl (respond_answersOnce _ _ rfl rfl)
  | start => exact .inl (start_answersOnce s)
  | cfgSel sel => exact .inl (cfgSel_answersOnce sel s)
  | submit _ payload => exact .inl (submit_answersOnce payload s)
  | take => exact .inl (takeFrame_answersOnce s)
  | status f => exact .inl (status_answersOnce f s)
  | step imm => exact (controlStep_answersOnce_or_goesOnAir s).imp_right (⟨·, imm, rfl⟩)
  | tick | txDone => cases hcmd
  | tsPeek | tsArmRx | tsArmTx | tsTakeRx | tsTakeTx | tsGuardClr | tsReserved => cases hcmd
  | qReset | qConfigure | qSetFreq | qSetPower | qSetKey | qAvail | qRecv | qXmit | qWaitDone => cases hcmd

/-- The codes 5 to 14 are not given (R95). -/
theorem RespCode.bits_range (c : RespCode) : c.bits.toNat < 5 ∨ c.bits.toNat = 15 := by
  cases c <;> decide

/-- Settles O35: the commands by `commandBody_answersOnce_or_goesOnAir`; `TX_DONE` gives the response that the fire
withheld. -/
theorem everyAcceptedCommandGetsOneResponse : Obligations.EveryAcceptedCommandGetsOneResponse := by
  unfold Obligations.EveryAcceptedCommandGetsOneResponse
  refine ⟨fun i s t hcmd hidle h => ?_, fun s t h => ?_, RespCode.bits_range⟩
  · rw [exec_eq_accept_commandBody hcmd, accept_idle hidle] at h
    obtain rfl : commandBody i s = t := Host.Outcome.next.inj h
    obtain ⟨hphase, hone⟩ | ⟨⟨hphase, hnone⟩, hstep⟩ := commandBody_answersOnce_or_goesOnAir hcmd s
    · exact .inl ⟨hphase.trans hidle, hone⟩
    · exact .inr ⟨hphase, hnone, hstep⟩
  · obtain ⟨-, rfl⟩ := execTxDone_cases h
    exact ⟨rfl, rfl⟩

end Sys2Proof.Machine
end

section
/-! The TickState port and the tick (40_tickstate.md R110 to R118): what each returns and writes, alone and in one
cycle. -/

namespace Sys2Proof.Machine

/-! ### Results on the port -/

theorem bitHalf_eq_ofNat (b : Bool) : bitHalf b = BitVec.ofNat 16 b.toNat := by
  cases b <;> rfl

/-- A flag is returned zero-extended (R87). -/
theorem exec_tsTakeRx (s : State) :
    exec .tsTakeRx s = .next { s with rx_expired := false, ts_result := some (BitVec.ofNat 16 s.rx_expired.toNat) } := by
  rw [← bitHalf_eq_ofNat]
  rfl

theorem exec_tsTakeTx (s : State) :
    exec .tsTakeTx s = .next { s with tx_due := false, ts_result := some (BitVec.ofNat 16 s.tx_due.toNat) } := by
  rw [← bitHalf_eq_ofNat]
  rfl

/-- The fields a peek can name, in the order of their numbers (R112). -/
def State.peekable (s : State) : List Nat :=
  [s.rx_countdown.toNat, s.tx_countdown.toNat, s.rx_expired.toNat, s.tx_due.toNat, s.inactivity_ticks.toNat]

theorem peekField_eq_map_peekable (f : Half) (s : State) :
    peekField f s = s.peekable[f.toNat]?.map (BitVec.ofNat 16) := by
  unfold peekField State.peekable
  split
  case h_6 h0 h1 h2 h3 h4 =>
    simp only [imp_false] at h0 h1 h2 h3 h4
    have past : 5 ≤ f.toNat := by omega
    simp [past]
  all_goals simp [*, bitHalf_eq_ofNat]

theorem exec_tsPeek_of_peekField {f v : Half} {s : State} (h : peekField f s = some v) :
    exec (.tsPeek f) s = .next (tsReturn (some v) s) := by
  simp [exec, execTsPeek, h]

theorem exec_tsPeek_cases {f : Half} {s t : State} (h : exec (.tsPeek f) s = .next t) :
    ∃ v, peekField f s = some v ∧ t = tsReturn (some v) s := by
  simp only [exec, execTsPeek] at h
  split at h
  · exact ⟨_, ‹_›, (Host.Outcome.next.inj h).symm⟩
  · cases h

theorem decode_peek {f : Half} (h : f.toNat < 5) : decode (.tickState 0 f) = .ok (.tsPeek f) :=
  if_pos h

/-- Settles O15: a field number in range picks its field out of the list, and the port returns that. -/
theorem peekReturnsTheField : Obligations.PeekReturnsTheField := by
  unfold Obligations.PeekReturnsTheField
  intro s f v h
  obtain ⟨hf, -⟩ := List.getElem?_eq_some_iff.mp h
  have field : peekField f s = some (BitVec.ofNat 16 v) := by
    rw [peekField_eq_map_peekable, State.peekable, h]
    rfl
  exact ⟨decode_peek hf, exec_tsPeek_of_peekField field⟩

/-- Settles O16: arming is one record update, and so is the empty result on the port. -/
theorem armingLoadsTheCountdownOnly : Obligations.ArmingLoadsTheCountdownOnly := by
  unfold Obligations.ArmingLoadsTheCountdownOnly
  intro s v
  exact ⟨rfl, rfl, rfl, rfl⟩

/-- Settles O18: clearing the guard is one record update, and so is the empty result on the port. -/
theorem guardClrWritesZero : Obligations.GuardClrWritesZero := by
  unfold Obligations.GuardClrWritesZero
  intro s arg
  exact ⟨rfl, rfl⟩

/-! ### The tick -/

theorem expireFlag_eq_or_decide (cnt : Half) (flag : Bool) : expireFlag cnt flag = (flag || decide (cnt = 1)) := by
  rw [expireFlag_eq, beq_eq_decide]

theorem expireFlag_cleared (cnt : Half) : expireFlag cnt false = decide (cnt = 1) := by
  rw [expireFlag_eq_or_decide, Bool.false_or]

/-- The guard counts from 0, since the ceiling is at least 1 (R9). -/
theorem guardUp_zero {c : Config} (hc : c.Legal) : guardUp c 0 = 1 := by
  obtain ⟨-, -, -, -, ⟨hceiling, -⟩, -⟩ := hc
  exact if_pos hceiling

/-- Settles O14: `TICK` is `tickState`; a countdown goes to 0 in the tick that finds it at 1. -/
theorem tickCountsAndSetsFlags : Obligations.TickCountsAndSetsFlags := by
  unfold Obligations.TickCountsAndSetsFlags
  intro s
  rw [← expireFlag_eq_or_decide, ← expireFlag_eq_or_decide]
  rfl

theorem countDown_of_ne_zero {v : Half} (hv : v ≠ 0) : countDown v = v - 1 := if_neg hv

/-- Settles O55: the tick acts on what the micro-operation leaves: the armed value, the cleared flag, the guard at 0. -/
theorem collisionsKeepEveryExpiry : Obligations.CollisionsKeepEveryExpiry := by
  unfold Obligations.CollisionsKeepEveryExpiry
  intro s v hc hv
  refine ⟨countDown_of_ne_zero hv, expireFlag_eq_or_decide .., countDown_of_ne_zero hv, expireFlag_eq_or_decide ..,
    rfl, expireFlag_cleared _, rfl, expireFlag_cleared _, guardUp_zero hc, fun f t h => ?_⟩
  obtain ⟨v, hfield, rfl⟩ := exec_tsPeek_cases h
  exact hfield.symm

end Sys2Proof.Machine
end

section
/-! The expiry flags (40_tickstate.md R115, R116, R121): of all operations, only the takes and the two commands that issue
them clear one. -/

namespace Sys2Proof.Machine

/-! ### Operations that leave both flags alone -/

/-- The two expiry flags (R23, R24). -/
def State.flags (s : State) : Bool × Bool := (s.rx_expired, s.tx_due)

theorem cfgSel_flags (sel : Byte) (s : State) : (cfgSel sel s).flags = s.flags := by
  obtain ⟨-, h⟩ | ⟨-, h⟩ := cfgSel_cases sel s <;> rw [h] <;> rfl

theorem submit_flags (payload : List Byte) (s : State) : (submit payload s).flags = s.flags := by
  obtain ⟨-, h⟩ | ⟨-, -, h⟩ | ⟨-, -, h⟩ := submit_cases payload s <;> rw [h] <;> rfl

theorem takeFrame_flags (s : State) : (takeFrame s).flags = s.flags := by
  obtain ⟨-, h⟩ | ⟨-, -, h⟩ | ⟨-, -, h⟩ := takeFrame_cases s <;> rw [h] <;> rfl

theorem status_flags (f : Byte) (s : State) : (status f s).flags = s.flags := by
  obtain ⟨v, -, h⟩ | ⟨-, h⟩ := status_cases f s <;> rw [h] <;> rfl

/-- Only `START` and `STEP` issue a take. -/
theorem commandBody_flags {i : Instr} (hstart : ∀ imm, i ≠ .start imm) (hstep : ∀ imm, i ≠ .step imm) (s : State) :
    (commandBody i s).flags = s.flags := by
  cases i with
  | nop | cfgRole | clrGuard | reserved => rfl
  | start imm => exact absurd rfl (hstart imm)
  | step imm => exact absurd rfl (hstep imm)
  | cfgSel sel => exact cfgSel_flags sel s
  | submit _ payload => exact submit_flags payload s
  | take => exact takeFrame_flags s
  | status f => exact status_flags f s
  | tick | txDone => rfl
  | tsPeek | tsArmRx | tsArmTx | tsTakeRx | tsTakeTx | tsGuardClr | tsReserved => rfl
  | qReset | qConfigure | qSetFreq | qSetPower | qSetKey | qAvail | qRecv | qXmit | qWaitDone => rfl

/-- The operations that write a flag: the tick sets, the takes and the two commands that issue them clear. -/
def writesFlags : Instr → Bool
  | .tick | .tsTakeRx | .tsTakeTx | .start _ | .step _ => true
  | _ => false

theorem exec_flags {i : Instr} {s t : State} (hi : writesFlags i = false) (h : exec i s = .next t) :
    t.flags = s.flags := by
  have command (hcmd : i.isCommand = true) : t.flags = s.flags := by
    have hbody := commandBody_flags (i := i) (by rintro imm rfl; cases hi) (by rintro imm rfl; cases hi) s
    rw [exec_eq_accept_commandBody hcmd] at h
    obtain ⟨-, rfl⟩ | ⟨-, rfl⟩ := accept_cases h
    · exact hbody
    · rfl
  cases i with
  | nop | start | cfgRole | cfgSel | clrGuard | submit | take | step | status | reserved => exact command rfl
  | tsArmRx | tsArmTx | tsGuardClr =>
    obtain rfl := Host.Outcome.next.inj h
    rfl
  | qReset | qConfigure | qSetFreq | qSetPower | qSetKey | qAvail | qRecv | qXmit | qWaitDone =>
    obtain rfl := Host.Outcome.next.inj h
    rfl
  | tsPeek =>
    obtain ⟨v, -, rfl⟩ := exec_tsPeek_cases h
    rfl
  | txDone =>
    obtain ⟨-, rfl⟩ := execTxDone_cases h
    rfl
  | tsReserved => cases h
  | tick | tsTakeRx | tsTakeTx => cases hi

/-! ### `STEP` by role -/

@[simp] theorem rxPoll_tx_due (s : State) : (rxPoll s).2.tx_due = s.tx_due := by
  obtain ⟨log, hpoll, -⟩ := rxPoll_cases s
  rw [hpoll]

@[simp] theorem rxMiss_tx_due (s : State) : (rxMiss s).tx_due = s.tx_due := by
  unfold rxMiss
  split <;> rfl

/-- The receive step takes only `rx_expired`. -/
theorem rxStep_tx_due (s : State) : (rxStep s).tx_due = s.tx_due := by
  obtain ⟨frame, -, h⟩ | ⟨-, -, h⟩ | ⟨-, -, h⟩ := rxStep_cases s <;> rw [h]
  · exact rxPoll_tx_due s
  · exact (rxMiss_tx_due _).trans (rxPoll_tx_due s)
  · exact rxPoll_tx_due s

/-- The transmit step takes only `tx_due`. -/
theorem txStep_rx_expired (s : State) : (txStep s).rx_expired = s.rx_expired := by
  obtain ⟨-, h⟩ | ⟨-, h⟩ := txStep_cases s <;> rw [h] <;> rfl

theorem controlStep_tx_due_of_receiver {s : State} (hrole : s.role = false) : (controlStep s).tx_due = s.tx_due := by
  obtain ⟨htx, -⟩ | ⟨htx, -⟩ | ⟨-, h⟩ := controlStep_cases s
  · simp [hrole] at htx
  · simp [hrole] at htx
  · rw [h, rxStep_tx_due]

theorem controlStep_rx_expired_of_transmitter {s : State} (hrole : s.role = true) :
    (controlStep s).rx_expired = s.rx_expired := by
  obtain ⟨-, -, h⟩ | ⟨-, -, h⟩ | ⟨hrx, -⟩ := controlStep_cases s
  · rw [h, respond_rx_expired]
  · rw [h, txStep_rx_expired]
  · simp [hrole] at hrx

/-! ### Who clears a flag -/

/-- Who clears `rx_expired` in a block of the given role: the take itself, `START`, and `STEP` as a receiver (R121). -/
def TakesRx (role : Bool) (i : Instr) : Prop :=
  i = .tsTakeRx ∨ (∃ imm, i = .start imm) ∨ (role = false ∧ ∃ imm, i = .step imm)

/-- Who clears `tx_due`: the take itself, `START`, and `STEP` as a transmitter (R121). -/
def TakesTx (role : Bool) (i : Instr) : Prop :=
  i = .tsTakeTx ∨ (∃ imm, i = .start imm) ∨ (role = true ∧ ∃ imm, i = .step imm)

theorem exec_keeps_or_takes {i : Instr} {s t : State} (h : exec i s = .next t) :
    ((s.rx_expired = true → t.rx_expired = true) ∨ TakesRx s.role i) ∧
    ((s.tx_due = true → t.tx_due = true) ∨ TakesTx s.role i) := by
  cases i with
  | tsTakeRx =>
    obtain rfl := Host.Outcome.next.inj h
    exact ⟨.inr (.inl rfl), .inl id⟩
  | tsTakeTx =>
    obtain rfl := Host.Outcome.next.inj h
    exact ⟨.inl id, .inr (.inl rfl)⟩
  | start imm => exact ⟨.inr (.inr (.inl ⟨imm, rfl⟩)), .inr (.inr (.inl ⟨imm, rfl⟩))⟩
  | tick =>
    obtain rfl := Host.Outcome.next.inj h
    exact ⟨.inl (expireFlag_keeps_set _), .inl (expireFlag_keeps_set _)⟩
  | step imm =>
    obtain ⟨-, rfl⟩ | ⟨-, rfl⟩ := accept_cases h
    · cases hrole : s.role with
      | false => exact ⟨.inr (.inr (.inr ⟨rfl, imm, rfl⟩)), .inl (controlStep_tx_due_of_receiver hrole).trans⟩
      | true => exact ⟨.inl (controlStep_rx_expired_of_transmitter hrole).trans, .inr (.inr (.inr ⟨rfl, imm, rfl⟩))⟩
    · exact ⟨.inl id, .inl id⟩
  | _ =>
    obtain ⟨hrx, htx⟩ := Prod.mk.inj (exec_flags rfl h)
    exact ⟨.inl hrx.trans, .inl htx.trans⟩

/-- Settles O17: the takes are record updates; every other operation keeps a set flag unless it issues a take. -/
theorem takingReturnsAndClearsTheFlag : Obligations.TakingReturnsAndClearsTheFlag := by
  unfold Obligations.TakingReturnsAndClearsTheFlag
  refine ⟨fun s arg => ⟨rfl, rfl, exec_tsTakeRx s, exec_tsTakeTx s⟩, fun i s t h => ?_⟩
  obtain ⟨hrx, htx⟩ := exec_keeps_or_takes h
  exact ⟨fun hset hclear => hrx.resolve_left (by simp [hset, hclear]),
    fun hset hclear => htx.resolve_left (by simp [hset, hclear])⟩

end Sys2Proof.Machine
end

section
/-! Frequencies, selectors and keys (41_hop_channel_key.md R131 to R136): the functions of the parameters in plain
arithmetic, and `CFG_SEL`, which applies them. -/

namespace Sys2Proof.Config

/-! ### `FREQ` (R131) -/

/-- The highest channel has the highest frequency, and that is the one R9 bounds. -/
theorem freqSum_lt {c : Config} (h : c.Legal) {ch : Byte} (hch : ch.toNat < c.M) :
    c.BASE_FREQUENCY + ch.toNat * c.CHANNEL_SPACING < 2 ^ 32 := by
  obtain ⟨-, -, -, -, -, -, -, -, hfreq, -⟩ := h
  calc c.BASE_FREQUENCY + ch.toNat * c.CHANNEL_SPACING
      ≤ c.BASE_FREQUENCY + (c.M - 1) * c.CHANNEL_SPACING := by gcongr; omega
    _ < 2 ^ 32 := hfreq

/-- Settles O46: a sum below `2 ^ 32` is its own 32-bit word. -/
theorem frequenciesNeverWrap : Obligations.FrequenciesNeverWrap := by
  unfold Obligations.FrequenciesNeverWrap
  intro c ch hc hch
  rw [freq, BitVec.toNat_ofNat, Nat.mod_eq_of_lt (freqSum_lt hc hch)]

/-! ### `KEY16` (R135) -/

theorem key16_length {c : Config} (h : c.Legal) (kb : Byte) : (c.key16 kb).length = 16 := by
  obtain ⟨-, -, -, -, -, -, htemplate, -⟩ := h
  exact List.length_set.trans htemplate

theorem key16_getElem? {c : Config} (h : c.Legal) (kb : Byte) (i : Nat) :
    (c.key16 kb)[i]? = if i = c.KEY_POS then some kb else c.KEY_TEMPLATE[i]? := by
  obtain ⟨-, -, -, -, -, -, htemplate, hpos, -⟩ := h
  have hin : c.KEY_POS < c.KEY_TEMPLATE.length := by rw [htemplate, KEY_LEN]; omega
  unfold key16
  split
  · subst i; exact List.getElem?_set_self hin
  · exact List.getElem?_set_ne (Ne.symm ‹_›)

/-- Settles O48: the key position lies inside the template, so setting that byte replaces one and adds none. -/
theorem keyByteStandsAtItsPosition : Obligations.KeyByteStandsAtItsPosition := by
  unfold Obligations.KeyByteStandsAtItsPosition
  exact fun c kb hc => ⟨key16_length hc kb, fun i _ => key16_getElem? hc kb i⟩

/-! ### `SELECT` (R133) -/

/-- The selector is the low four bits of the immediate. -/
theorem and_selMask_toNat (sel : Byte) : (sel &&& SEL_MASK).toNat = sel.toNat % 16 := by
  rw [BitVec.toNat_and]
  exact Nat.and_two_pow_sub_one_eq_mod sel.toNat 4

/-- Of the selector's bits the low three remain. -/
theorem and_selMask_and_seqMask_toNat (sel : Byte) : (sel &&& SEL_MASK &&& SEQ_MASK).toNat = sel.toNat % 8 := by
  rw [BitVec.toNat_and, and_selMask_toNat]
  exact (Nat.and_two_pow_sub_one_eq_mod _ 3).trans (Nat.mod_mod_of_dvd _ (by decide))

theorem selectKey_eq_ofNat (c : Config) (sel : Byte) :
    c.selectKey sel = BitVec.ofNat 8 (c.HOP_KEY_OFFSET + sel.toNat % 16) := by
  rw [selectKey, and_selMask_toNat]

theorem selectId_eq_ofNat (sel : Byte) : selectId sel = BitVec.ofNat 3 (sel.toNat % 8) := by
  rw [selectId, ← BitVec.ofNat_toNat, and_selMask_and_seqMask_toNat]

end Sys2Proof.Config

namespace Sys2Proof.Machine

/-! ### `CFG_SEL` (R136) -/

/-- An operand presented with the word is not looked at. -/
theorem decode_cfgSel (imm : Byte) (operand : List Byte) :
    decode (.command (commandWord 0x03 imm) operand) = .ok (.cfgSel imm) := by
  simp [decode, decodeCommand]

/-- Settles O5: accepted in `IDLE`, the command has the two outcomes of `cfgSel_cases`, and each excludes the other's
premise. -/
theorem cfgSelAppliesSelectorAtomically : Obligations.CfgSelAppliesSelectorAtomically := by
  unfold Obligations.CfgSelAppliesSelectorAtomically
  refine fun s imm operand => ⟨decode_cfgSel imm operand, fun hidle kb hkb => ?_⟩
  obtain rfl : kb = s.cfg.selectKey imm := hkb.trans (Config.selectKey_eq_ofNat s.cfg imm).symm
  have hexec : exec (.cfgSel imm) s = .next (cfgSel imm s) := accept_idle hidle
  rw [hexec, ← Config.selectId_eq_ofNat]
  obtain ⟨hsame, heq⟩ | ⟨hother, heq⟩ := cfgSel_cases imm s <;> rw [heq]
  · exact ⟨fun _ => rfl, fun hne => absurd hsame hne⟩
  · exact ⟨fun h => absurd h hother, fun _ => rfl⟩

end Sys2Proof.Machine
end

section
/-! The buffer commands `SUBMIT` and `TAKE` (42_packetcodec.md R154, R156, R157): their words, and their outcomes as the
premises of the spec's tables tell them apart. -/

namespace Sys2Proof.Machine

/-! ### `SUBMIT` (R156) -/

/-- The operand presented with the word is the payload. -/
theorem decode_submit (imm : Byte) (payload : List Byte) :
    decode (.command (commandWord 0x05 imm) payload) = .ok (.submit imm payload) := by
  simp [decode, decodeCommand]

/-- Settles O7: accepted in `IDLE`, the command has the three outcomes of `submit_cases`, and the premise of each is
at odds with those of the other two. -/
theorem submitOutcomes : Obligations.SubmitOutcomes := by
  unfold Obligations.SubmitOutcomes
  refine fun s imm payload => ⟨decode_submit imm payload, fun hidle => ?_⟩
  have hexec : exec (.submit imm payload) s = .next (submit payload s) := accept_idle hidle
  rw [hexec]
  obtain ⟨hlen, heq⟩ | ⟨hlen, hpending, heq⟩ | ⟨hlen, hfree, heq⟩ := submit_cases payload s <;> rw [heq]
  · exact ⟨fun _ => rfl, fun h => absurd h hlen, fun h => absurd h hlen⟩
  · exact ⟨fun hne => absurd hlen hne, fun _ _ => rfl, fun _ h => absurd hpending (by simp [h])⟩
  · exact ⟨fun hne => absurd hlen hne, fun _ h => absurd hfree (by simp [h]), fun _ _ => rfl⟩

/-! ### `TAKE` (R157) -/

/-- An operand presented with the word is not looked at. -/
theorem decode_take (imm : Byte) (operand : List Byte) :
    decode (.command (commandWord 0x06 imm) operand) = .ok (.take imm) := by
  simp [decode, decodeCommand]

/-- Settles O8: accepted in `IDLE`, the command has the three outcomes of `takeFrame_cases`, the unreachable one
included, and the premise of each is at odds with those of the other two. -/
theorem takeOutcomes : Obligations.TakeOutcomes := by
  unfold Obligations.TakeOutcomes
  refine fun s imm operand => ⟨decode_take imm operand, fun hidle => ?_⟩
  have hexec : exec (.take imm) s = .next (takeFrame s) := accept_idle hidle
  rw [hexec]
  obtain ⟨hnone, heq⟩ | ⟨hready, hbad, heq⟩ | ⟨hready, hgood, heq⟩ := takeFrame_cases s <;> rw [heq]
  · exact ⟨fun _ => rfl, fun h => absurd hnone (by simp [h]), fun h => absurd hnone (by simp [h])⟩
  · exact ⟨fun h => absurd hready (by simp [h]), fun _ _ => rfl, fun _ h => absurd hbad (by simp [h])⟩
  · exact ⟨fun h => absurd hready (by simp [h]), fun _ h => absurd hgood (by simp [h]), fun _ _ => rfl⟩

end Sys2Proof.Machine
end

section
/-! The receive step (43_linksynchronizer.md R171 to R176): the poll and the miss as equations of the state, the word of
`STEP`, and the outcomes of R176 in the terms of the driver's answers. -/

namespace Sys2Proof.Machine

/-! ### The poll (R171) -/

/-- A frame is fetched only when one is announced, whatever it holds. -/
theorem rxPoll_snd (s : State) :
    (rxPoll s).2 = { s with radio_log := s.radio_log ++ (if s.answers.avail then [.avail, .recv] else [.avail]) } := by
  obtain ⟨log, hpoll, ⟨rfl, ha, -⟩ | ⟨rfl, ha, -⟩ | ⟨rfl, ha, -⟩⟩ := rxPoll_cases s <;> simp [hpoll, ha]

@[simp] theorem rxPoll_rx_expired (s : State) : (rxPoll s).2.rx_expired = s.rx_expired := by
  rw [rxPoll_snd]

theorem rxPoll_fst (s : State) :
    (rxPoll s).1 = if s.answers.avail = true ∧ s.cfg.verify (receivedBytes s.answers) = true
      then some (receivedBytes s.answers) else none := by
  obtain ⟨-, -, ⟨-, ha, hgot⟩ | ⟨-, -, hv, hgot⟩ | ⟨-, ha, hv, hgot⟩⟩ := rxPoll_cases s
  · simp [hgot, ha]
  · simp [hgot, hv]
  · simp [hgot, ha, hv]

/-! ### The miss (R174) -/

theorem parked_iff (s : State) : s.parked = true ↔ s.missed_hop_count = 20 := by
  simp [State.parked, MISS_CAP, ← BitVec.toNat_inj]

theorem rxMiss_below_cap {s : State} (h : s.missed_hop_count ≠ 20) :
    rxMiss s = { s with rx_countdown := s.cfg.hopLoad, missed_hop_count := s.missed_hop_count + 1 } :=
  if_neg (mt (parked_iff s).mp h)

theorem rxMiss_at_cap {s : State} (h : s.missed_hop_count = 20) :
    rxMiss s = { s with rx_countdown := s.cfg.hopLoad, channel_index := 0 } :=
  if_pos ((parked_iff s).mpr h)

/-! ### `STEP` in the receive role (R176) -/

/-- An operand presented with the word is not looked at. -/
theorem decode_step (imm : Byte) (operand : List Byte) :
    decode (.command (commandWord 0x07 imm) operand) = .ok (.step imm) := by
  simp [decode, decodeCommand]

theorem exec_step_of_receiver {s : State} (imm : Byte) (hidle : s.ctl_phase = .idle) (hrole : s.role = false) :
    exec (.step imm) s = .next (rxStep s) := by
  have hbody : controlStep s = rxStep s := by simp [controlStep, hrole]
  exact (accept_idle hidle).trans (congrArg _ hbody)

theorem rxStep_hit {s : State} (h : s.answers.avail = true ∧ s.cfg.verify (receivedBytes s.answers) = true) :
    rxStep s = rxFinish (rxHit (advanceSlot (rxCommit (receivedBytes s.answers) (rxPoll s).2))) := by
  have hgot := (rxPoll_fst s).trans (if_pos h)
  obtain ⟨frame, hframe, heq⟩ | ⟨hnone, -⟩ | ⟨hnone, -⟩ := rxStep_cases s
  · obtain rfl : receivedBytes s.answers = frame := Option.some.inj (hgot.symm.trans hframe)
    exact heq
  · simp [hgot] at hnone
  · simp [hgot] at hnone

theorem rxStep_without_frame {s : State}
    (h : ¬(s.answers.avail = true ∧ s.cfg.verify (receivedBytes s.answers) = true)) :
    rxStep s = if s.rx_expired then rxFinish (rxMiss (advanceSlot (rxPoll s).2)) else respond .idle .none (rxPoll s).2 := by
  have hnone := (rxPoll_fst s).trans (if_neg h)
  obtain ⟨frame, hframe, -⟩ | ⟨-, hexp, heq⟩ | ⟨-, hexp, heq⟩ := rxStep_cases s
  · simp [hnone] at hframe
  · rwa [if_pos ((rxPoll_rx_expired s).symm.trans hexp)]
  · rwa [if_neg (by simpa using hexp)]

/-- Settles O10: each outcome is its branch of `rxStep`, with the poll and the miss put in as equations; what is left is
the record of the updates, by definition. -/
theorem receiveStepOutcomes : Obligations.ReceiveStepOutcomes := by
  unfold Obligations.ReceiveStepOutcomes
  refine fun s imm operand => ⟨decode_step imm operand, ?_⟩
  rintro hidle hrole _ _ _ rfl rfl rfl
  rw [exec_step_of_receiver imm hidle hrole]
  refine ⟨fun hgot => ?hit, fun hnone hexp hbelow => ?miss, fun hnone hexp hcap => ?parked, fun hnone hwait => ?wait⟩
  case hit => rw [rxStep_hit hgot, rxPoll_snd]; rfl
  case miss =>
    rw [rxStep_without_frame hnone, if_pos hexp, rxPoll_snd, rxMiss_below_cap]
    · rfl
    · exact hbelow
  case parked =>
    rw [rxStep_without_frame hnone, if_pos hexp, rxPoll_snd, rxMiss_at_cap]
    · rfl
    · exact hcap
  case wait => rw [rxStep_without_frame hnone, if_neg (by simp [hwait]), rxPoll_snd]; rfl

end Sys2Proof.Machine
end

section
/-! The transmit side (44_txscheduler.md R192 to R194): the blanked test and the fire as equations of the state, the outcomes
of `STEP` in the transmit role, the end of a transmission, and `CLR_GUARD`. -/

namespace Sys2Proof.Machine

/-! ### `STEP` in the transmit role (R192) -/

theorem blanked_iff (s : State) : s.blanked = true ↔ s.inactivity_ticks.toNat = s.cfg.BLANKING_TIMEOUT := by
  simp [State.blanked]

/-- The two requests of the fire, in their order. -/
theorem txFire_eq (s : State) :
    txFire s = { s with
      tx_countdown := s.cfg.hopLoad
      tx_due := false
      radio_log := s.radio_log ++ [.xmit s.tx_buf s.cfg.N, .waitDone]
      ctl_phase := .txOnair } := by
  simp [txFire, request, tsTakeTx, tsArmTx]

/-- Settles O11: accepted in `IDLE`, the command in the transmit role has the blanked branch of `controlStep_cases` and
the two outcomes of `txStep_cases`, and the premise of each is at odds with those of the other two. -/
theorem transmitStepOutcomes : Obligations.TransmitStepOutcomes := by
  unfold Obligations.TransmitStepOutcomes
  refine fun s imm operand hidle hrole => ⟨decode_step imm operand, ?_⟩
  have hexec : exec (.step imm) s = .next (controlStep s) := accept_idle hidle
  rw [hexec]
  obtain ⟨-, hblanked, heq⟩ | ⟨-, hopen, heq⟩ | ⟨hreceiver, -⟩ := controlStep_cases s
  · have hceiling := (blanked_iff s).mp hblanked
    rw [heq]
    exact ⟨fun _ => rfl, fun hne => absurd hceiling hne, fun hne => absurd hceiling hne⟩
  · have hbelow : s.inactivity_ticks.toNat ≠ s.cfg.BLANKING_TIMEOUT := fun h => by simp [(blanked_iff s).mpr h] at hopen
    rw [heq]
    obtain ⟨hwait, hstep⟩ | ⟨hdue, hstep⟩ := txStep_cases s <;> rw [hstep]
    · exact ⟨fun h => absurd h hbelow, fun _ _ => rfl, fun _ h => absurd hwait (by simp [h])⟩
    · exact ⟨fun h => absurd h hbelow, fun _ h => absurd hdue (by simp [h]), fun _ _ => by rw [txFire_eq]⟩
  · simp [hrole] at hreceiver

/-! ### `TX_DONE` (R193) -/

theorem exec_txDone_onAir {s : State} (h : s.ctl_phase = .txOnair) : exec .txDone s = .next (txFinish s) := by
  simp [exec, execTxDone, h]

/-- Settles O12: on air the event is `txFinish`, whose retune is to the slot just advanced to; what is left is the record
of the updates, by definition. -/
theorem txDoneEndsTheTransmission : Obligations.TxDoneEndsTheTransmission := by
  unfold Obligations.TxDoneEndsTheTransmission
  rintro s honAir _ rfl
  exact exec_txDone_onAir honAir

/-! ### `CLR_GUARD` (R194) -/

/-- An operand presented with the word is not looked at. -/
theorem decode_clrGuard (imm : Byte) (operand : List Byte) :
    decode (.command (commandWord 0x04 imm) operand) = .ok (.clrGuard imm) := by
  simp [decode, decodeCommand]

/-- Settles O6: accepted in `IDLE`, the command is one record update and the answer. -/
theorem clrGuardClearsTheGuardOnly : Obligations.ClrGuardClearsTheGuardOnly := by
  unfold Obligations.ClrGuardClearsTheGuardOnly
  exact fun s imm operand => ⟨decode_clrGuard imm operand, fun hidle =>
    (exec_eq_accept_commandBody rfl s).trans (accept_idle hidle)⟩

end Sys2Proof.Machine
end

section
/-! ControlTask (45_controltask.md R210 to R215): the words of its commands, and the whole effect of each once it is
accepted in `IDLE`. -/

namespace Sys2Proof.Machine

theorem exec_command_of_idle {i : Instr} {s : State} (hcmd : i.isCommand = true) (hidle : s.ctl_phase = .idle) :
    exec i s = .next (commandBody i s) :=
  (exec_eq_accept_commandBody hcmd s).trans (accept_idle hidle)

/-! ### `NOP` (R211) -/

/-- An operand presented with the word is not looked at. -/
theorem decode_nop (imm : Byte) (operand : List Byte) :
    decode (.command (commandWord 0x00 imm) operand) = .ok (.nop imm) := by
  simp [decode, decodeCommand]

/-- Settles O1: accepted in `IDLE`, the command is the answer alone. -/
theorem nopOnlyAnswersOk : Obligations.NopOnlyAnswersOk := by
  unfold Obligations.NopOnlyAnswersOk
  exact fun s imm operand => ⟨decode_nop imm operand, exec_command_of_idle rfl⟩

/-! ### Reserved command words (R215) -/

theorem decode_reserved {op : Byte} (h : 9 ≤ op.toNat) (imm : Byte) (operand : List Byte) :
    decode (.command (commandWord op imm) operand) = .ok (.reserved op imm) := by
  simp [decode, Laws.decodeCommand_reserved, h]

/-- Settles O2: accepted in `IDLE`, a reserved word is the answer alone. -/
theorem reservedWordsAnswerIllegal : Obligations.ReservedWordsAnswerIllegal := by
  unfold Obligations.ReservedWordsAnswerIllegal
  exact fun s op imm operand hop => ⟨decode_reserved hop imm operand, exec_command_of_idle rfl⟩

/-! ### `START` (R213) -/

/-- An operand presented with the word is not looked at. -/
theorem decode_start (imm : Byte) (operand : List Byte) :
    decode (.command (commandWord 0x01 imm) operand) = .ok (.start imm) := by
  simp [decode, decodeCommand]

/-- What `START` writes before it makes its requests: the slot, the miss count, and the receive and transmit timers. -/
theorem startTimers_eq (s : State) :
    startTimers s = { s with
      channel_index := 0
      missed_hop_count := 0
      rx_countdown := s.cfg.hopLoad
      tx_countdown := s.cfg.hopLoad
      rx_expired := false
      tx_due := false } := rfl

/-- The retune comes after the slot is written, so the frequency is that of slot 0. -/
theorem start_eq (s : State) :
    start s = { startTimers s with
      radio_log := s.radio_log ++
        [.setKey (s.cfg.key16 s.active_key_byte), .setFreq (s.cfg.freq (s.cfg.seq s.hop_sequence_id 0))]
      response_log := s.response_log ++ [⟨if s.answers.freqOk then .ok else .radioFail, .none⟩] } := by
  simp [start, respond, retune, request, startTimers_eq, State.curFreq, State.curChannel]

/-- Settles O3: accepted in `IDLE`, the command is `start`, a record of the timers, the two requests and the answer. -/
theorem startRestartsTimingAtSlotZero : Obligations.StartRestartsTimingAtSlotZero := by
  unfold Obligations.StartRestartsTimingAtSlotZero
  refine fun s imm operand => ⟨decode_start imm operand, fun hidle => ?_⟩
  have hexec : exec (.start imm) s = .next (start s) := exec_command_of_idle rfl hidle
  rw [hexec, start_eq, startTimers_eq]

/-! ### `CFG_ROLE` (R212) -/

/-- An operand presented with the word is not looked at. -/
theorem decode_cfgRole (imm : Byte) (operand : List Byte) :
    decode (.command (commandWord 0x02 imm) operand) = .ok (.cfgRole imm) := by
  simp [decode, decodeCommand]

/-- Bit 0 of the immediate is its parity. -/
theorem roleOfImm_eq_decide (imm : Byte) : roleOfImm imm = decide (imm.toNat % 2 = 1) :=
  Nat.testBit_zero imm.toNat

/-- Settles O4: accepted in `IDLE`, the command is one record update and the answer. -/
theorem cfgRoleWritesRoleOnly : Obligations.CfgRoleWritesRoleOnly := by
  unfold Obligations.CfgRoleWritesRoleOnly
  refine fun s imm operand => ⟨decode_cfgRole imm operand, fun hidle => ?_⟩
  rw [← roleOfImm_eq_decide]
  exact exec_command_of_idle rfl hidle

/-! ### `STEP` (R210) -/

/-- Settles O9: accepted in `IDLE`, the command has the three branches of `controlStep_cases`, and what the branch says of
the role and the guard decides the tests of the statement. -/
theorem stepDispatchesOnTheRole : Obligations.StepDispatchesOnTheRole := by
  unfold Obligations.StepDispatchesOnTheRole
  refine fun s imm operand => ⟨decode_step imm operand, fun hidle => ?_⟩
  have hexec : exec (.step imm) s = .next (controlStep s) := exec_command_of_idle rfl hidle
  rw [hexec]
  simp only [← blanked_iff]
  obtain ⟨htx, hblanked, heq⟩ | ⟨htx, hopen, heq⟩ | ⟨hrx, heq⟩ := controlStep_cases s <;> rw [heq]
  · rw [if_pos htx, if_pos hblanked]; rfl
  · rw [if_pos htx, if_neg (by simp [hopen])]
  · rw [if_neg (by simp [hrx])]

/-! ### `STATUS` (R214) -/

/-- An operand presented with the word is not looked at. -/
theorem decode_status (imm : Byte) (operand : List Byte) :
    decode (.command (commandWord 0x08 imm) operand) = .ok (.status imm) := by
  simp [decode, decodeCommand]

theorem flagAt_eq_ofNat (b : Bool) (i : Nat) : flagAt b i = BitVec.ofNat 32 (2 ^ i * b.toNat) := by
  cases b with
  | false => simp [flagAt]
  | true => exact BitVec.eq_of_toNat_eq (by simp [flagAt, Nat.shiftLeft_eq])

/-- A flag above every bit that is set adds its power of two. -/
theorem ofNat_or_flagAt {n i : Nat} (h : n < 2 ^ i) (b : Bool) :
    BitVec.ofNat 32 n ||| flagAt b i = BitVec.ofNat 32 (n + 2 ^ i * b.toNat) := by
  rw [flagAt_eq_ofNat, ← BitVec.ofNat_or, Nat.or_comm, ← Nat.two_pow_add_eq_or_of_lt h, Nat.add_comm]

/-- The six flags stand at different bits, so the word is their weighted sum (R98). -/
theorem flagsWord_eq_ofNat (s : State) :
    flagsWord s = BitVec.ofNat 32
      (s.rx_expired.toNat + 2 * s.tx_due.toNat + 4 * s.rx_ready.toNat + 8 * s.tx_pending.toNat + 16 * s.role.toNat +
        32 * s.blanked.toNat) := by
  have hexp := s.rx_expired.toNat_le
  have hdue := s.tx_due.toNat_le
  have hready := s.rx_ready.toNat_le
  have hpending := s.tx_pending.toNat_le
  have hrole := s.role.toNat_le
  rw [flagsWord, flagAt_eq_ofNat, ofNat_or_flagAt (by omega), ofNat_or_flagAt (by omega), ofNat_or_flagAt (by omega),
    ofNat_or_flagAt (by omega), ofNat_or_flagAt (by omega)]
  simp

/-- The items `STATUS` can select, in the order of their select codes (R97). -/
def State.statusItems (s : State) : List Nat :=
  [ s.rx_countdown.toNat,
    s.tx_countdown.toNat,
    s.rx_expired.toNat + 2 * s.tx_due.toNat + 4 * s.rx_ready.toNat + 8 * s.tx_pending.toNat + 16 * s.role.toNat +
      32 * s.blanked.toNat,
    s.inactivity_ticks.toNat,
    s.hop_sequence_id.toNat,
    s.active_key_byte.toNat,
    s.channel_index.toNat,
    s.missed_hop_count.toNat,
    s.curChannel.toNat,
    s.curFreq.toNat ]

theorem statusValue_eq_map_statusItems (f : Byte) (s : State) :
    statusValue f s = s.statusItems[f.toNat]?.map (BitVec.ofNat 32) := by
  unfold statusValue State.statusItems
  split
  case h_11 h0 h1 h2 h3 h4 h5 h6 h7 h8 h9 =>
    simp only [imp_false] at h0 h1 h2 h3 h4 h5 h6 h7 h8 h9
    have past : 10 ≤ f.toNat := by omega
    simp [past]
  all_goals simp [*, flagsWord_eq_ofNat]

theorem status_of_item {f : Byte} {s : State} {v : Nat} (h : s.statusItems[f.toNat]? = some v) :
    status f s = respond .ok (.value (BitVec.ofNat 32 v)) s := by
  simp [status, statusValue_eq_map_statusItems, h]

theorem status_past_items {f : Byte} {s : State} (h : 10 ≤ f.toNat) : status f s = respond .illegal .none s := by
  have hnone : s.statusItems[f.toNat]? = none := List.getElem?_eq_none h
  simp [status, statusValue_eq_map_statusItems, hnone]

/-- Settles O13: accepted in `IDLE`, the command answers the item that its select picks out of `statusItems`, and is
illegal where that list ends. -/
theorem statusReadsTheSelectedItem : Obligations.StatusReadsTheSelectedItem := by
  unfold Obligations.StatusReadsTheSelectedItem
  refine fun s imm operand => ⟨decode_status imm operand, fun hidle => ?_⟩
  have hexec : exec (.status imm) s = .next (status imm s) := exec_command_of_idle rfl hidle
  rw [hexec]
  exact ⟨fun v hitem => congrArg _ (status_of_item hitem), fun hpast => congrArg _ (status_past_items hpast)⟩

end Sys2Proof.Machine
end

section
/-! The decoder and the encoder (30_encoding.md R81 to R92): each undoes the other where the formats admit the term or
the word, and what is decoded is well formed. -/

namespace Sys2Proof.Laws

/-! ### From an instruction to its signal and back -/

/-- The instructions row by row. -/
theorem decode_encode (i : Instr) : RoundTrip.Statement i := by
  cases i with
  | nop imm => exact RoundTrip.nop imm
  | start imm => exact RoundTrip.start imm
  | cfgRole imm => exact RoundTrip.cfgRole imm
  | cfgSel imm => exact RoundTrip.cfgSel imm
  | clrGuard imm => exact RoundTrip.clrGuard imm
  | submit imm payload => exact RoundTrip.submit imm payload
  | take imm => exact RoundTrip.take imm
  | step imm => exact RoundTrip.step imm
  | status imm => exact RoundTrip.status imm
  | reserved op imm => exact RoundTrip.reserved op imm
  | tsPeek f => exact RoundTrip.tsPeek f
  | tsArmRx v => exact RoundTrip.tsArmRx v
  | tsArmTx v => exact RoundTrip.tsArmTx v
  | tsTakeRx => exact RoundTrip.tsTakeRx
  | tsTakeTx => exact RoundTrip.tsTakeTx
  | tsGuardClr => exact RoundTrip.tsGuardClr
  | tsReserved code => exact RoundTrip.tsReserved code
  | qReset => exact RoundTrip.qReset
  | qConfigure profile => exact RoundTrip.qConfigure profile
  | qSetFreq hz => exact RoundTrip.qSetFreq hz
  | qSetPower level highPower => exact RoundTrip.qSetPower level highPower
  | qSetKey key => exact RoundTrip.qSetKey key
  | qAvail => exact RoundTrip.qAvail
  | qRecv => exact RoundTrip.qRecv
  | qXmit frame => exact RoundTrip.qXmit frame
  | qWaitDone => exact RoundTrip.qWaitDone
  | tick => exact RoundTrip.tick
  | txDone => exact RoundTrip.txDone

/-- Settles O26: the family `RoundTrip` has a lemma for every row of the opcode table. -/
theorem decodeEncodeAgree : Obligations.DecodeEncodeAgree := by
  unfold Obligations.DecodeEncodeAgree
  exact decode_encode

/-! ### From a command word to its instruction and back -/

/-- Sixteen bits are their high byte and their low byte. -/
theorem highByte_append_lowByte (w : Half) : w.extractLsb' 8 8 ++ w.extractLsb' 0 8 = w := by
  rw [BitVec.extractLsb'_append_extractLsb'_eq_extractLsb' (by decide)]
  exact BitVec.extractLsb'_eq_self

/-- A command word is its opcode and its immediate, no bit dropped (R81). -/
theorem commandWord_opOf_immOf (w : Half) : commandWord (opOf w) (immOf w) = w := highByte_append_lowByte w

theorem opOf_toNat (w : Half) : (opOf w).toNat = w.toNat / 256 := by
  have hw := w.isLt
  simp only [opOf, BitVec.extractLsb'_toNat, Nat.shiftRight_eq_div_pow]
  omega

/-- The word of a defined opcode, put together from the opcode and the immediate read from it. -/
theorem commandWord_immOf {w : Half} {op : Byte} (h : (opOf w).toNat = op.toNat) : commandWord op (immOf w) = w := by
  rw [← BitVec.eq_of_toNat_eq h, commandWord_opOf_immOf]

/-- Opcode by opcode: the word comes back, and `SUBMIT` keeps the operand too. -/
theorem encode_decodeCommand (w : Half) (operand : List Byte) :
    ∃ operand', encode (decodeCommand w operand) = .command w operand' ∧
      ((opOf w).toNat = 5 → operand' = operand) := by
  unfold decodeCommand
  split
  case h_6 hop => exact ⟨operand, by rw [encode, commandWord_immOf]; exact hop, fun _ => rfl⟩
  case h_10 _ _ _ _ _ hop _ _ _ =>
    exact ⟨[], by rw [encode, commandWord_opOf_immOf], fun h => (hop h).elim⟩
  all_goals
    rename_i hop
    exact ⟨[], by rw [encode, commandWord_immOf]; exact hop, fun h => absurd (hop.symm.trans h) (by decide)⟩

/-- Settles O27: the opcode of a word is its upper byte. -/
theorem commandWordsReencode : Obligations.CommandWordsReencode := by
  unfold Obligations.CommandWordsReencode
  intro w operand i hdec
  obtain rfl : decodeCommand w operand = i := Except.ok.inj hdec
  rw [← opOf_toNat]
  exact encode_decodeCommand w operand

/-! ### What the decoder gives is well formed -/

theorem decodeCommand_wellFormed (w : Half) (operand : List Byte) : (decodeCommand w operand).wellFormed = true := by
  unfold decodeCommand
  split
  case h_10 h0 h1 h2 h3 h4 h5 h6 h7 h8 =>
    simp only [imp_false] at h0 h1 h2 h3 h4 h5 h6 h7 h8
    exact decide_eq_true (by omega)
  all_goals rfl

theorem decodeTickState_wellFormed {tsOp : BitVec 3} {tsArg : Half} {i : Instr}
    (h : decodeTickState tsOp tsArg = .ok i) : i.wellFormed = true := by
  unfold decodeTickState at h
  split at h
  case h_1 =>
    split at h
    · cases h; exact decide_eq_true ‹_›
    · cases h
  case h_7 h0 h1 h2 h3 h4 h5 =>
    simp only [imp_false] at h0 h1 h2 h3 h4 h5
    cases h
    exact decide_eq_true (by omega)
  all_goals cases h; rfl

theorem noArgument_ok {rq : BitVec 4} {i j : Instr} {arg : RadioArg} (h : noArgument rq i arg = .ok j) : j = i := by
  cases arg <;> cases h
  rfl

theorem profileArgument_ok {rq : BitVec 4} {i : List Byte → Instr} {j : Instr} {arg : RadioArg}
    (h : profileArgument rq i arg = .ok j) : ∃ bytes, j = i bytes := by
  cases arg <;> cases h
  exact ⟨_, rfl⟩

theorem hzArgument_ok {rq : BitVec 4} {i : Word → Instr} {j : Instr} {arg : RadioArg}
    (h : hzArgument rq i arg = .ok j) : ∃ hz, j = i hz := by
  cases arg <;> cases h
  exact ⟨_, rfl⟩

theorem powerArgument_ok {rq : BitVec 4} {i : Nat → Bool → Instr} {j : Instr} {arg : RadioArg}
    (h : powerArgument rq i arg = .ok j) : ∃ level highPower, j = i level highPower := by
  cases arg <;> cases h
  exact ⟨_, _, rfl⟩

/-- The one argument whose form is tested. -/
theorem bytesArgument_wellFormed {rq : BitVec 4} {i : List Byte → Instr} {j : Instr} {arg : RadioArg}
    (h : bytesArgument rq i arg = .ok j) : j.wellFormed = true := by
  cases arg with
  | bytes bytes =>
    simp only [bytesArgument] at h
    split at h
    · cases h; assumption
    · cases h
  | none | profile | hz | power => cases h

theorem decodeRadio_wellFormed {rq : BitVec 4} {arg : RadioArg} {i : Instr} (h : decodeRadio rq arg = .ok i) :
    i.wellFormed = true := by
  unfold decodeRadio at h
  split at h
  case h_1 | h_6 | h_7 | h_9 => rw [noArgument_ok h]; rfl
  case h_2 => obtain ⟨bytes, rfl⟩ := profileArgument_ok h; rfl
  case h_3 => obtain ⟨hz, rfl⟩ := hzArgument_ok h; rfl
  case h_4 => obtain ⟨level, highPower, rfl⟩ := powerArgument_ok h; rfl
  case h_5 | h_8 => exact bytesArgument_wellFormed h
  case h_10 => cases h

/-- Settles O25: the decoder port by port; only a reserved opcode, a peek field, a reserved TickState code and a key
have a form to test. -/
theorem decodedInstructionsAreWellFormed : Obligations.DecodedInstructionsAreWellFormed := by
  unfold Obligations.DecodedInstructionsAreWellFormed
  intro sig i hdec
  cases sig with
  | command w operand =>
    obtain rfl : decodeCommand w operand = i := Except.ok.inj hdec
    exact decodeCommand_wellFormed w operand
  | tickState => exact decodeTickState_wellFormed hdec
  | radio => exact decodeRadio_wellFormed hdec
  | tick | txDone => cases hdec; rfl

/-! ### Words and codes on their own -/

/-- Settles O28: nine words read off the tables. -/
theorem sampleWordsDecode : Obligations.SampleWordsDecode := by
  unfold Obligations.SampleWordsDecode
  decide

theorem decodeTickState_reserved {code : BitVec 3} (arg : Half) (h : 6 ≤ code.toNat) :
    decodeTickState code arg = .ok (.tsReserved code) := by
  unfold decodeTickState
  split
  case h_7 => rfl
  all_goals omega

theorem peekField_none {f : Half} (h : 5 ≤ f.toNat) (s : Machine.State) : Machine.peekField f s = none := by
  rw [Machine.peekField_eq_map_peekable, List.getElem?_eq_none h]
  rfl

/-- Settles O19: past the codes and the fields in use, decoder and machine both stop. -/
theorem neverIssuedCodesStop : Obligations.NeverIssuedCodesStop := by
  unfold Obligations.NeverIssuedCodesStop
  refine fun s f arg code => ⟨fun hcode => ⟨decodeTickState_reserved arg hcode, rfl⟩, fun hf => ⟨?_, ?_⟩⟩
  · exact if_neg (Nat.not_lt.mpr hf)
  · simp [Machine.exec, Machine.execTsPeek, peekField_none hf]

/-- Settles O20: each request appends itself to the log and puts the driver's answer on the port. -/
theorem requestsAreLoggedWithTheirResults : Obligations.RequestsAreLoggedWithTheirResults := by
  unfold Obligations.RequestsAreLoggedWithTheirResults
  intro s profile key frame hz level high
  exact ⟨rfl, rfl, rfl, rfl, rfl, rfl, rfl, rfl, rfl⟩

/-- `CFG_ROLE` reads bit 0 of its immediate (R84). -/
theorem roleOfImm_congr {imm imm' : Byte} (h : imm.toNat % 2 = imm'.toNat % 2) :
    Machine.roleOfImm imm = Machine.roleOfImm imm' := by
  rw [Machine.roleOfImm_eq_decide, Machine.roleOfImm_eq_decide, h]

/-- `CFG_SEL` reads bits 3:0 of its immediate (R84): both selector functions do. -/
theorem cfgSel_congr {imm imm' : Byte} (h : imm.toNat % 16 = imm'.toNat % 16) :
    Machine.cfgSel imm = Machine.cfgSel imm' := by
  have hlow : imm &&& SEL_MASK = imm' &&& SEL_MASK :=
    BitVec.eq_of_toNat_eq (by rw [Config.and_selMask_toNat, Config.and_selMask_toNat, h])
  unfold Machine.cfgSel Machine.applySelector Config.selectKey Config.selectId
  rw [hlow]

/-- Settles O24: seven bodies have no immediate; the other two read only the bits of R84. -/
theorem unusedImmediateBitsAreIgnored : Obligations.UnusedImmediateBitsAreIgnored := by
  unfold Obligations.UnusedImmediateBitsAreIgnored
  refine fun s imm imm' op payload => ⟨rfl, rfl, rfl, rfl, rfl, rfl, rfl, fun h => ?role, fun h => ?sel⟩
  case role => simp only [Machine.exec, Machine.execCfgRole, roleOfImm_congr h]
  case sel => simp only [Machine.exec, Machine.execCfgSel, cfgSel_congr h]

end Sys2Proof.Laws
end

section
/-! The step (00_scope.md R11, 30_encoding.md R82, R91, R92): which input it takes, what stays presented, and what of
the state no instruction writes. -/

namespace Sys2Proof.Machine

/-! ### What no instruction writes -/

/-- What the surroundings give and no instruction writes: the parameters, the inputs presented, the radio's answers, the
turn. -/
def State.given (s : State) : Config × List Input × Answers × Nat := (s.cfg, s.inputs, s.answers, s.turn)

@[simp] theorem rxPoll_given (s : State) : (rxPoll s).2.given = s.given := by
  rw [rxPoll_snd]
  rfl

@[simp] theorem rxMiss_given (s : State) : (rxMiss s).given = s.given := by
  unfold rxMiss
  split <;> rfl

theorem rxFinish_given (s : State) : (rxFinish s).given = s.given := rfl

theorem rxHit_advanceSlot_rxCommit_given (frame : List Byte) (s : State) :
    (rxHit (advanceSlot (rxCommit frame s))).given = s.given := rfl

theorem cfgSel_given (sel : Byte) (s : State) : (cfgSel sel s).given = s.given := by
  obtain ⟨-, h⟩ | ⟨-, h⟩ := cfgSel_cases sel s <;> rw [h] <;> rfl

theorem submit_given (payload : List Byte) (s : State) : (submit payload s).given = s.given := by
  obtain ⟨-, h⟩ | ⟨-, -, h⟩ | ⟨-, -, h⟩ := submit_cases payload s <;> rw [h] <;> rfl

theorem takeFrame_given (s : State) : (takeFrame s).given = s.given := by
  obtain ⟨-, h⟩ | ⟨-, -, h⟩ | ⟨-, -, h⟩ := takeFrame_cases s <;> rw [h] <;> rfl

theorem status_given (f : Byte) (s : State) : (status f s).given = s.given := by
  obtain ⟨v, -, h⟩ | ⟨-, h⟩ := status_cases f s <;> rw [h] <;> rfl

theorem rxStep_given (s : State) : (rxStep s).given = s.given := by
  obtain ⟨frame, -, h⟩ | ⟨-, -, h⟩ | ⟨-, -, h⟩ := rxStep_cases s <;> rw [h]
  · rw [rxFinish_given, rxHit_advanceSlot_rxCommit_given, rxPoll_given]
  · exact (rxMiss_given (advanceSlot (rxPoll s).2)).trans (rxPoll_given s)
  · exact rxPoll_given s

theorem controlStep_given (s : State) : (controlStep s).given = s.given := by
  obtain ⟨-, -, h⟩ | ⟨-, -, h⟩ | ⟨-, h⟩ := controlStep_cases s <;> rw [h]
  · rfl
  · obtain ⟨-, htx⟩ | ⟨-, htx⟩ := txStep_cases s <;> rw [htx] <;> rfl
  · exact rxStep_given s

theorem commandBody_given (i : Instr) (s : State) : (commandBody i s).given = s.given := by
  cases i with
  | nop | start | cfgRole | clrGuard | reserved => rfl
  | cfgSel sel => exact cfgSel_given sel s
  | submit _ payload => exact submit_given payload s
  | take => exact takeFrame_given s
  | step => exact controlStep_given s
  | status f => exact status_given f s
  | tick | txDone => rfl
  | tsPeek | tsArmRx | tsArmTx | tsTakeRx | tsTakeTx | tsGuardClr | tsReserved => rfl
  | qReset | qConfigure | qSetFreq | qSetPower | qSetKey | qAvail | qRecv | qXmit | qWaitDone => rfl

theorem exec_given {i : Instr} {s t : State} (h : exec i s = .next t) : t.given = s.given := by
  have command (hcmd : i.isCommand = true) : t.given = s.given := by
    rw [exec_eq_accept_commandBody hcmd] at h
    obtain ⟨-, rfl⟩ | ⟨-, rfl⟩ := accept_cases h
    · exact commandBody_given i s
    · rfl
  cases i with
  | nop | start | cfgRole | cfgSel | clrGuard | submit | take | step | status | reserved => exact command rfl
  | tsArmRx | tsArmTx | tsTakeRx | tsTakeTx | tsGuardClr | tick =>
    obtain rfl := Host.Outcome.next.inj h
    rfl
  | qReset | qConfigure | qSetFreq | qSetPower | qSetKey | qAvail | qRecv | qXmit | qWaitDone =>
    obtain rfl := Host.Outcome.next.inj h
    rfl
  | tsPeek =>
    obtain ⟨v, -, rfl⟩ := exec_tsPeek_cases h
    rfl
  | txDone =>
    obtain ⟨-, rfl⟩ := execTxDone_cases h
    rfl
  | tsReserved => cases h

theorem exec_cfg {i : Instr} {s t : State} (h : exec i s = .next t) : t.cfg = s.cfg := congrArg Prod.fst (exec_given h)

theorem exec_inputs {i : Instr} {s t : State} (h : exec i s = .next t) : t.inputs = s.inputs :=
  congrArg (fun given => given.2.1) (exec_given h)

/-- Settles O33: waiting and reset keep the parameters by definition, an instruction by `exec_given`. -/
theorem parametersNeverChange : Obligations.ParametersNeverChange := by
  unfold Obligations.ParametersNeverChange
  intro s t hstep
  obtain ⟨-, rfl⟩ | ⟨others, -, rfl⟩ | ⟨sig, a, others, i, -, -, hexec⟩ := step_cases hstep
  · rfl
  · rfl
  · exact (exec_cfg hexec).trans (load_cfg ..)

/-! ### The input that is taken -/

theorem takeEnabled_held_append {p : Phase} {held : List Input} (hheld : ∀ j ∈ held, enabled p j = false) {i : Input}
    (hi : enabled p i = true) (later : List Input) : takeEnabled p (held ++ i :: later) = some (i, held ++ later) := by
  induction held with
  | nil => exact takeEnabled_cons_enabled hi
  | cons j held ih =>
    obtain ⟨hj, hrest⟩ := List.forall_mem_cons.mp hheld
    simp [takeEnabled, hj, ih hrest]

theorem takeEnabled_none_of_held {p : Phase} {held : List Input} (hheld : ∀ j ∈ held, enabled p j = false) :
    takeEnabled p held = none := by
  induction held with
  | nil => rfl
  | cons j held ih =>
    obtain ⟨hj, hrest⟩ := List.forall_mem_cons.mp hheld
    simp [takeEnabled, hj, ih hrest]

theorem load_eq (others : List Input) (a : Option Answers) (s : State) :
    load others a s = { s with
      inputs := others, answers := a.getD (Config.freeAnswers s.turn), turn := s.turn + 1 } := by
  cases a <;> rfl

section
variable {s : State} {others : List Input}

theorem step_signal {sig : Signal} {a : Option Answers} {i : Instr}
    (htake : takeEnabled s.ctl_phase s.inputs = some (.signal sig a, others)) (hdec : decode sig = .ok i) :
    step s = exec i (load others a s) := by
  simp [step, htake, hdec]

theorem step_undecodable {sig : Signal} {a : Option Answers} {e : DecodeError}
    (htake : takeEnabled s.ctl_phase s.inputs = some (.signal sig a, others)) (hdec : decode sig = .error e) :
    step s = .refused (.undecodable e) := by
  simp [step, htake, hdec]

theorem step_reset (htake : takeEnabled s.ctl_phase s.inputs = some (.reset, others)) :
    step s = .next (applyReset others s) := by
  simp [step, htake]

theorem step_wait (htake : takeEnabled s.ctl_phase s.inputs = none) : step s = .next s := by
  simp [step, htake]

end

theorem enabled_command (p : Phase) (w : Half) (operand : List Byte) (a : Option Answers) :
    enabled p (.signal (.command w operand) a) = decide (p = .idle) := by
  cases p <;> rfl

theorem enabled_txDone (p : Phase) (a : Option Answers) :
    enabled p (.signal .txDone a) = decide (p = .txOnair) := by
  cases p <;> rfl

/-- Settles O21: the held-off inputs are passed over by `takeEnabled`, and `step` does what the taken one says. -/
theorem stepExecutesTheFirstEnabledSignal : Obligations.StepExecutesTheFirstEnabledSignal := by
  unfold Obligations.StepExecutesTheFirstEnabledSignal
  refine fun s held later hheld => ⟨fun sig a hin hen => ?signal, fun hin => ?reset, fun hin => ?wait,
    fun p a w v operand tsOp rq arg => ⟨enabled_command .., enabled_txDone .., rfl, rfl, rfl, rfl⟩⟩
  case signal =>
    have htake := (congrArg _ hin).trans (takeEnabled_held_append hheld hen later)
    refine ⟨fun i hdec => ?_, fun e hdec => step_undecodable htake hdec⟩
    rw [step_signal htake hdec, load_eq]
  case reset => exact step_reset ((congrArg _ hin).trans (takeEnabled_held_append hheld rfl later))
  case wait => exact step_wait ((congrArg _ hin).trans (takeEnabled_none_of_held hheld))

theorem decodeCommand_isCommand (w : Half) (operand : List Byte) : (decodeCommand w operand).isCommand = true := by
  unfold decodeCommand
  split <;> rfl

/-- Settles O58: each of the four is enabled at the head, so it is the one taken. -/
theorem inputsAtTheHeadAreTaken : Obligations.InputsAtTheHeadAreTaken := by
  unfold Obligations.InputsAtTheHeadAreTaken
  intro s taken a rest htaken
  obtain rfl : taken = load rest a s := htaken.trans (load_eq rest a s).symm
  have headTaken {i : Input} (hin : s.inputs = i :: rest) (hen : enabled s.ctl_phase i = true) :
      takeEnabled s.ctl_phase s.inputs = some (i, rest) := (congrArg _ hin).trans (takeEnabled_cons_enabled hen)
  refine ⟨fun w operand hin hidle => ?command, fun hin => ?tick, fun hin honAir => ?txDone, fun hin => ?reset⟩
  case command =>
    have hen : enabled s.ctl_phase (.signal (.command w operand) a) = true := by simp [enabled_command, hidle]
    exact ⟨_, decodeCommand_isCommand w operand, rfl, step_signal (headTaken hin hen) rfl⟩
  case tick => exact step_signal (headTaken hin rfl) rfl
  case txDone => exact step_signal (headTaken hin (by simp [enabled_txDone, honAir])) rfl
  case reset => exact step_reset (headTaken hin rfl)

/-! ### The inputs that are held off -/

/-- An input at the head that is held off is still at the head after the step. -/
theorem step_keeps_held_head {s t : State} {j : Input} {rest : List Input} (hin : s.inputs = j :: rest)
    (hheld : enabled s.ctl_phase j = false) (hstep : step s = .next t) : ∃ rest', t.inputs = j :: rest' := by
  have othersKeepHead {i : Input} {others : List Input} (htake : takeEnabled s.ctl_phase s.inputs = some (i, others)) :
      ∃ rest', others = j :: rest' := by
    obtain ⟨held, later, hsplit, rfl, hi, -⟩ := takeEnabled_some htake
    rw [hin] at hsplit
    cases held with
    | nil =>
      obtain ⟨rfl, -⟩ := List.cons.inj hsplit
      simp [hi] at hheld
    | cons k held =>
      obtain ⟨rfl, -⟩ := List.cons.inj hsplit
      exact ⟨held ++ later, rfl⟩
  obtain ⟨-, rfl⟩ | ⟨others, htake, rfl⟩ | ⟨sig, a, others, i, htake, -, hexec⟩ := step_cases hstep
  · exact ⟨rest, hin⟩
  · exact othersKeepHead htake
  · rw [exec_inputs hexec]
    exact othersKeepHead htake

/-- Settles O22: on air a command is not accepted and not enabled. -/
theorem commandsAreHeldOffOnAir : Obligations.CommandsAreHeldOffOnAir := by
  unfold Obligations.CommandsAreHeldOffOnAir
  refine fun s honAir => ⟨fun i hcmd => ?_, fun w operand a rest t hin hstep => ?_⟩
  · exact (exec_eq_accept_commandBody hcmd s).trans (accept_txOnair honAir)
  · exact step_keeps_held_head hin (by simp [enabled_command, honAir]) hstep

/-- Settles O23: in `IDLE` the event has no step and is not enabled. -/
theorem txDoneHasNoStepInIdle : Obligations.TxDoneHasNoStepInIdle := by
  unfold Obligations.TxDoneHasNoStepInIdle
  refine fun s hidle => ⟨by simp [exec, execTxDone, hidle], fun a rest t hin hstep => ?_⟩
  exact step_keeps_held_head hin (by simp [enabled_txDone, hidle]) hstep

end Sys2Proof.Machine
end

section
/-! The invariants of 10_state.md R45: each shared operation keeps them under a condition on what it writes, and every
transition is a chain of shared operations. -/

/-- There is at least one channel (R7). -/
theorem Sys2Proof.Config.M_pos {c : Config} (h : c.Legal) : 0 < c.M := by
  obtain ⟨-, ⟨hM, -⟩, -⟩ := h
  exact hM

namespace Sys2Proof.Inv

open Machine

variable {s : State}

/-! ### The shared operations -/

theorem respond (h : Inv s) (code : RespCode) (data : RespData) : Inv (respond code data s) := { h with }

theorem request (h : Inv s) (q : Request) : Inv (request q s) := { h with }

theorem retune (h : Inv s) : Inv (retune s) := { h with }

theorem armRx (h : Inv s) {v : Half} (hv : v.toNat ≤ s.cfg.hitTicks) : Inv (tsArmRx v s) := { h with rxCountdown := hv }

theorem armTx (h : Inv s) {v : Half} (hv : v.toNat ≤ s.cfg.hopTicks) : Inv (tsArmTx v s) := { h with txCountdown := hv }

theorem takeRx (h : Inv s) : Inv (tsTakeRx s).2 := { h with }

theorem takeTx (h : Inv s) : Inv (tsTakeTx s).2 := { h with }

theorem guardClr (h : Inv s) : Inv (tsGuardClr s) := { h with guard := Nat.zero_le _ }

theorem advanceSlot (h : Inv s) : Inv (advanceSlot s) := { h with slot := Config.nextSlot_lt h.legal _ }

theorem slotZero (h : Inv s) : Inv { s with channel_index := 0 } :=
  { h with slot := Nat.zero_lt_of_lt h.slot }

theorem load (h : Inv s) {others : List Input} (hothers : ∀ i ∈ others, i.external = true) (a : Option Answers) :
    Inv (load others a s) := { h with external := hothers }

/-- Both countdowns take one hop period (R8). -/
theorem armRx_hopLoad (h : Inv s) : Inv (tsArmRx s.cfg.hopLoad s) :=
  h.armRx (Config.hopLoad_toNat h.legal ▸ Config.hopTicks_le_hitTicks h.legal)

theorem armTx_hopLoad (h : Inv s) : Inv (tsArmTx s.cfg.hopLoad s) := h.armTx (Config.hopLoad_toNat h.legal).le

theorem armRx_hitLoad (h : Inv s) : Inv (tsArmRx s.cfg.hitLoad s) := h.armRx (Config.hitLoad_toNat h.legal).le

/-! ### The events -/

theorem tick (h : Inv s) : Inv (tickState s) :=
  { h with
    rxCountdown := (countDown_toNat _).trans_le ((Nat.sub_le _ 1).trans h.rxCountdown)
    txCountdown := (countDown_toNat _).trans_le ((Nat.sub_le _ 1).trans h.txCountdown)
    guard := guardUp_le h.legal h.guard }

/-- The buffer is consumed, so nothing is asked of it any more (44_txscheduler.md R193). -/
theorem txFinish (h : Inv s) : Inv (txFinish s) := by
  have hopped : Inv (Machine.retune (Machine.advanceSlot s)) := h.advanceSlot.retune
  have consumed : Inv { Machine.retune (Machine.advanceSlot s) with tx_pending := false, ctl_phase := .idle } :=
    { hopped with txFrame := nofun }
  exact consumed.respond ..

/-- Both buffers have the frame length, and the key byte is the one of selector 0 (R44). -/
theorem atReset {c : Config} (hc : c.Legal) (turn : Nat) : Inv (State.atReset c turn) where
  legal := hc
  rxCountdown := Nat.zero_le _
  txCountdown := Nat.zero_le _
  guard := Nat.zero_le _
  slot := Config.M_pos hc
  misses := Nat.zero_le _
  rxFrame := nofun
  selector := ⟨0, rfl, rfl⟩
  txFrame := nofun
  rxLength := Config.rxBufAtReset_length c turn
  txLength := Config.txBufAtReset_length c turn
  external := nofun

/-! ### The commands -/

theorem start (h : Inv s) : Inv (start s) := by
  have restarted : Inv { s with channel_index := 0, missed_hop_count := 0 } :=
    { h.slotZero with misses := Nat.zero_le _ }
  have timers : Inv (startTimers s) := restarted.armRx_hopLoad.armTx_hopLoad.takeRx.takeTx
  exact (timers.request _).retune.respond ..

/-- Sequence and key byte are written from one selector (R136). -/
theorem cfgSel (h : Inv s) (sel : Byte) : Inv (cfgSel sel s) := by
  obtain ⟨-, hsel⟩ | ⟨-, hsel⟩ := cfgSel_cases sel s <;> rw [hsel]
  · exact h.respond ..
  · have applied : Inv { s with hop_sequence_id := Config.selectId sel, active_key_byte := s.cfg.selectKey sel } :=
      { h with selector := ⟨sel, rfl, rfl⟩ }
    exact (applied.request _).respond ..

/-- An accepted payload has `N-2` bytes, and its frame two more (R156). -/
theorem submit (h : Inv s) (payload : List Byte) : Inv (submit payload s) := by
  obtain ⟨-, hsub⟩ | ⟨-, -, hsub⟩ | ⟨hlen, -, hsub⟩ := submit_cases payload s <;> rw [hsub]
  · exact h.respond ..
  · exact h.respond ..
  · have hframe : (encodeFrame payload).length = s.cfg.N := by
      obtain ⟨⟨hN, -⟩, -⟩ := h.legal
      simp only [encodeFrame_length, hlen, CRC_LEN]
      omega
    have accepted : Inv { s with tx_buf := encodeFrame payload, tx_pending := true, last_payload := some payload } :=
      { h with txFrame := fun _ => ⟨payload, rfl, hlen, rfl⟩, txLength := hframe }
    exact accepted.guardClr.respond ..

theorem takeFrame (h : Inv s) : Inv (takeFrame s) := by
  have taken : Inv { s with rx_ready := false } := { h with rxFrame := nofun }
  obtain ⟨-, htake⟩ | ⟨-, -, htake⟩ | ⟨-, -, htake⟩ := takeFrame_cases s <;> rw [htake]
  · exact h.respond ..
  · exact taken.respond ..
  · exact taken.respond ..

theorem status (h : Inv s) (f : Byte) : Inv (status f s) := by
  obtain ⟨v, -, hstat⟩ | ⟨-, hstat⟩ := status_cases f s <;> rw [hstat] <;> exact h.respond ..

theorem rxPoll (h : Inv s) : Inv (rxPoll s).2 := by
  rw [rxPoll_snd]
  exact { h with }

/-- A frame that verifies has the frame length (R59). -/
theorem rxCommit (h : Inv s) {frame : List Byte} (hframe : s.cfg.verify frame = true) : Inv (rxCommit frame s) :=
  { h with
    misses := Nat.zero_le _
    rxFrame := fun _ => hframe
    rxLength := Config.length_of_verify hframe }

/-- The count goes up below the cap only (R174). -/
theorem rxMiss (h : Inv s) : Inv (rxMiss s) := by
  unfold Machine.rxMiss
  split
  · exact h.armRx_hopLoad.slotZero
  · rename_i hbelow
    have hcount : s.missed_hop_count.toNat ≠ MISS_CAP := by simpa [State.parked] using hbelow
    have hcap := h.misses
    have counted : (s.missed_hop_count + 1).toNat ≤ MISS_CAP := by
      simp only [MISS_CAP] at hcount hcap ⊢
      bv_omega
    exact { h.armRx_hopLoad with misses := counted }

theorem rxFinish (h : Inv s) : Inv (rxFinish s) := h.takeRx.retune.respond ..

theorem rxStep (h : Inv s) : Inv (rxStep s) := by
  obtain ⟨frame, hpoll, hrx⟩ | ⟨-, -, hrx⟩ | ⟨-, -, hrx⟩ := rxStep_cases s <;> rw [hrx]
  · have hframe : (Machine.rxPoll s).2.cfg.verify frame = true := by
      rw [rxPoll_fst] at hpoll
      rw [rxPoll_snd]
      split at hpoll
      · cases hpoll; exact And.right ‹_›
      · cases hpoll
    exact (h.rxPoll.rxCommit hframe).advanceSlot.armRx_hitLoad.rxFinish
  · exact h.rxPoll.advanceSlot.rxMiss.rxFinish
  · exact h.rxPoll.respond ..

theorem txFire (h : Inv s) : Inv (txFire s) := by
  have sent : Inv (Machine.request .waitDone (Machine.request (.xmit s.tx_buf s.cfg.N)
      (tsTakeTx (tsArmTx s.cfg.hopLoad s)).2)) := (h.armTx_hopLoad.takeTx.request _).request _
  exact { sent with }

theorem controlStep (h : Inv s) : Inv (controlStep s) := by
  obtain ⟨-, -, hstep⟩ | ⟨-, -, hstep⟩ | ⟨-, hstep⟩ := controlStep_cases s <;> rw [hstep]
  · exact h.respond ..
  · obtain ⟨-, htx⟩ | ⟨-, htx⟩ := txStep_cases s <;> rw [htx]
    · exact h.respond ..
    · exact h.txFire
  · exact h.rxStep

theorem commandBody (h : Inv s) (i : Instr) : Inv (commandBody i s) := by
  cases i with
  | nop | reserved => exact h.respond ..
  | start => exact h.start
  | cfgRole imm =>
    have hrole : Inv { s with role := roleOfImm imm } := { h with }
    exact hrole.respond ..
  | cfgSel sel => exact h.cfgSel sel
  | clrGuard => exact h.guardClr.respond ..
  | submit _ payload => exact h.submit payload
  | take => exact h.takeFrame
  | step => exact h.controlStep
  | status f => exact h.status f
  | tick | txDone => exact h
  | tsPeek | tsArmRx | tsArmTx | tsTakeRx | tsTakeTx | tsGuardClr | tsReserved => exact h
  | qReset | qConfigure | qSetFreq | qSetPower | qSetKey | qAvail | qRecv | qXmit | qWaitDone => exact h

/-! ### The step -/

theorem exec {i : Instr} {t : State} (h : Inv s) (htrans : i.isTransition = true) (hexec : exec i s = .next t) :
    Inv t := by
  obtain hcmd | rfl | rfl := isTransition_cases htrans
  · rw [exec_eq_accept_commandBody hcmd] at hexec
    obtain ⟨-, rfl⟩ | ⟨-, rfl⟩ := accept_cases hexec
    · exact h.commandBody i
    · exact h
  · obtain rfl : tickState s = t := Host.Outcome.next.inj hexec
    exact h.tick
  · obtain ⟨-, rfl⟩ := execTxDone_cases hexec
    exact h.txFinish

/-- What stays presented comes from outside, since it was presented before. -/
theorem external_of_takeEnabled (h : Inv s) {i : Input} {others : List Input}
    (htake : takeEnabled s.ctl_phase s.inputs = some (i, others)) : ∀ j ∈ others, j.external = true :=
  fun j hj => h.external j (takeEnabled_mem htake hj)

/-- Settles O32: a step waits, resets, or executes a transition of the block, since the inputs come from outside. -/
theorem stepKeepsTheInvariants : Obligations.StepKeepsTheInvariants := by
  unfold Obligations.StepKeepsTheInvariants
  intro s t h hstep
  obtain ⟨-, rfl⟩ | ⟨others, htake, rfl⟩ | ⟨sig, a, others, i, htake, hdec, hexec⟩ := step_cases hstep
  · exact h
  · exact { atReset h.legal (s.turn + 1) with external := h.external_of_takeEnabled htake }
  · have htrans := isTransition_of_decode_external (h.external _ (mem_of_takeEnabled htake)) hdec
    exact (h.load (h.external_of_takeEnabled htake) a).exec htrans hexec

/-- Settles O31: `State.reset` is the reset table under the straps, which are legal. -/
theorem resetMeetsTheInvariants : Obligations.ResetMeetsTheInvariants := by
  unfold Obligations.ResetMeetsTheInvariants
  exact atReset Config.straps_legal 0

end Sys2Proof.Inv
end

section
/-! Writers (10_state.md R27 to R40): which transition may change which field. -/

namespace Sys2Proof.Machine

/-- Where `t` differs from `s`, the rule of the field names `i` among its writers. -/
structure WrittenByRule (i : Instr) (s t : State) : Prop where
  role : t.role ≠ s.role → ∃ imm, i = .cfgRole imm
  sequence : t.hop_sequence_id ≠ s.hop_sequence_id → ∃ imm, i = .cfgSel imm
  keyByte : t.active_key_byte ≠ s.active_key_byte → ∃ imm, i = .cfgSel imm
  slot : t.channel_index ≠ s.channel_index →
    (s.role = false ∧ ∃ imm, i = .step imm) ∨ (∃ imm, i = .start imm) ∨ i = .txDone
  misses : t.missed_hop_count ≠ s.missed_hop_count → (s.role = false ∧ ∃ imm, i = .step imm) ∨ ∃ imm, i = .start imm
  rxBuf : t.rx_buf ≠ s.rx_buf → s.role = false ∧ ∃ imm, i = .step imm
  rxReady : t.rx_ready ≠ s.rx_ready →
    (s.rx_ready = false ∧ s.role = false ∧ ∃ imm, i = .step imm) ∨ (s.rx_ready = true ∧ ∃ imm, i = .take imm)
  txBuf : t.tx_buf ≠ s.tx_buf → ∃ imm payload, i = .submit imm payload
  txPending : t.tx_pending ≠ s.tx_pending →
    (s.tx_pending = false ∧ ∃ imm payload, i = .submit imm payload) ∨ (s.tx_pending = true ∧ i = .txDone)
  phase : t.ctl_phase ≠ s.ctl_phase →
    (s.ctl_phase = .idle ∧ s.role = true ∧ ∃ imm, i = .step imm) ∨ (s.ctl_phase = .txOnair ∧ i = .txDone)
  frameReceived : t.frame_received ≠ s.frame_received → s.role = false ∧ ∃ imm, i = .step imm
  lastPayload : t.last_payload ≠ s.last_payload →
    ∃ imm payload, i = .submit imm payload ∧ t.last_payload = some payload
  tsResult : t.ts_result = s.ts_result
  qResult : t.q_result = s.q_result

namespace WrittenByRule

theorem refl (i : Instr) (s : State) : WrittenByRule i s s := by
  constructor <;> simp

theorem start (imm : Byte) (s : State) : WrittenByRule (.start imm) s (start s) :=
  { refl _ s with
    slot := fun _ => .inr (.inl ⟨imm, rfl⟩)
    misses := fun _ => .inr ⟨imm, rfl⟩ }

theorem cfgSel (imm : Byte) (s : State) : WrittenByRule (.cfgSel imm) s (cfgSel imm s) := by
  obtain ⟨-, h⟩ | ⟨-, h⟩ := cfgSel_cases imm s <;> rw [h]
  · exact { refl _ s with }
  · exact { refl _ s with
      sequence := fun _ => ⟨imm, rfl⟩
      keyByte := fun _ => ⟨imm, rfl⟩ }

theorem submit (imm : Byte) (payload : List Byte) (s : State) :
    WrittenByRule (.submit imm payload) s (submit payload s) := by
  obtain ⟨-, h⟩ | ⟨-, -, h⟩ | ⟨-, hfree, h⟩ := submit_cases payload s <;> rw [h]
  · exact { refl _ s with }
  · exact { refl _ s with }
  · exact { refl _ s with
      txBuf := fun _ => ⟨imm, payload, rfl⟩
      txPending := fun _ => .inl ⟨hfree, imm, payload, rfl⟩
      lastPayload := fun _ => ⟨imm, payload, rfl, rfl⟩ }

theorem takeFrame (imm : Byte) (s : State) : WrittenByRule (.take imm) s (takeFrame s) := by
  obtain ⟨-, h⟩ | ⟨hready, -, h⟩ | ⟨hready, -, h⟩ := takeFrame_cases s <;> rw [h]
  · exact { refl _ s with }
  · exact { refl _ s with rxReady := fun _ => .inr ⟨hready, imm, rfl⟩ }
  · exact { refl _ s with rxReady := fun _ => .inr ⟨hready, imm, rfl⟩ }

theorem status (i : Instr) (f : Byte) (s : State) : WrittenByRule i s (status f s) := by
  obtain ⟨v, -, h⟩ | ⟨-, h⟩ := status_cases f s <;> rw [h] <;> exact { refl _ s with }

theorem rxPoll (i : Instr) (s : State) : WrittenByRule i s (rxPoll s).2 := by
  rw [rxPoll_snd]
  exact { refl _ s with }

theorem rxFinish {i : Instr} {s t : State} (h : WrittenByRule i s t) : WrittenByRule i s (rxFinish t) := { h with }

theorem advanceSlot {i : Instr} {s t : State} (h : WrittenByRule i s t)
    (byStep : s.role = false ∧ ∃ imm, i = .step imm) : WrittenByRule i s (advanceSlot t) :=
  { h with slot := fun _ => .inl byStep }

/-- A hit writes the count and the receive buffer. -/
theorem rxCommit {i : Instr} {s t : State} (h : WrittenByRule i s t) (byStep : s.role = false ∧ ∃ imm, i = .step imm)
    (frame : List Byte) : WrittenByRule i s (rxCommit frame t) :=
  { h with
    misses := fun _ => .inl byStep
    rxBuf := fun _ => byStep
    rxReady := fun hne => .inl ⟨Bool.eq_false_of_not_eq_true hne.symm, byStep⟩
    frameReceived := fun _ => byStep }

theorem rxHit {i : Instr} {s t : State} (h : WrittenByRule i s t) : WrittenByRule i s (rxHit t) := { h with }

/-- A miss writes the count, or the slot at the cap. -/
theorem rxMiss {i : Instr} {s t : State} (h : WrittenByRule i s t) (byStep : s.role = false ∧ ∃ imm, i = .step imm) :
    WrittenByRule i s (rxMiss t) := by
  unfold Machine.rxMiss
  split
  · exact { h with slot := fun _ => .inl byStep }
  · exact { h with misses := fun _ => .inl byStep }

theorem rxStep (imm : Byte) {s : State} (hrole : s.role = false) : WrittenByRule (.step imm) s (rxStep s) := by
  have byStep : s.role = false ∧ ∃ imm', Instr.step imm = .step imm' := ⟨hrole, imm, rfl⟩
  have polled := rxPoll (.step imm) s
  obtain ⟨frame, -, h⟩ | ⟨-, -, h⟩ | ⟨-, -, h⟩ := rxStep_cases s <;> rw [h]
  · exact ((polled.rxCommit byStep frame).advanceSlot byStep).rxHit.rxFinish
  · exact ((polled.advanceSlot byStep).rxMiss byStep).rxFinish
  · exact { polled with }

theorem controlStep (imm : Byte) {s : State} (hidle : s.ctl_phase = .idle) :
    WrittenByRule (.step imm) s (controlStep s) := by
  obtain ⟨-, -, h⟩ | ⟨hrole, -, h⟩ | ⟨hrole, h⟩ := controlStep_cases s <;> rw [h]
  · exact { refl _ s with }
  · obtain ⟨-, htx⟩ | ⟨-, htx⟩ := txStep_cases s <;> rw [htx]
    · exact { refl _ s with }
    · exact { refl _ s with phase := fun _ => .inl ⟨hidle, hrole, imm, rfl⟩ }
  · exact rxStep imm hrole

theorem txFinish {s : State} (honAir : s.ctl_phase = .txOnair) : WrittenByRule .txDone s (txFinish s) :=
  { refl _ s with
    slot := fun _ => .inr (.inr rfl)
    txPending := fun hne => .inr ⟨Bool.eq_true_of_not_eq_false hne.symm, rfl⟩
    phase := fun _ => .inr ⟨honAir, rfl⟩ }

theorem commandBody (i : Instr) {s : State} (hidle : s.ctl_phase = .idle) :
    WrittenByRule i s (commandBody i s) := by
  cases i with
  | nop | clrGuard | reserved => exact { refl _ s with }
  | cfgRole imm => exact { refl _ s with role := fun _ => ⟨imm, rfl⟩ }
  | start imm => exact start imm s
  | cfgSel imm => exact cfgSel imm s
  | submit imm payload => exact submit imm payload s
  | take imm => exact takeFrame imm s
  | step imm => exact controlStep imm hidle
  | status f => exact status _ f s
  | tick | txDone => exact refl _ s
  | tsPeek | tsArmRx | tsArmTx | tsTakeRx | tsTakeTx | tsGuardClr | tsReserved => exact refl _ s
  | qReset | qConfigure | qSetFreq | qSetPower | qSetKey | qAvail | qRecv | qXmit | qWaitDone => exact refl _ s

theorem exec {i : Instr} {s t : State} (htrans : i.isTransition = true) (h : exec i s = .next t) :
    WrittenByRule i s t := by
  obtain hcmd | rfl | rfl := isTransition_cases htrans
  · rw [exec_eq_accept_commandBody hcmd] at h
    obtain ⟨hidle, rfl⟩ | ⟨-, rfl⟩ := accept_cases h
    · exact commandBody i hidle
    · exact refl _ _
  · obtain rfl : tickState s = t := Host.Outcome.next.inj h
    exact { refl _ s with }
  · obtain ⟨honAir, rfl⟩ := execTxDone_cases h
    exact txFinish honAir

end WrittenByRule

/-- Settles O38: the fields of the block by `WrittenByRule`, what the surroundings give by `exec_given`. -/
theorem everyFieldHasItsWriters : Obligations.EveryFieldHasItsWriters := by
  unfold Obligations.EveryFieldHasItsWriters
  intro i s t htrans h
  have w := WrittenByRule.exec htrans h
  have hgiven := exec_given h
  simp only [State.given, Prod.mk.injEq] at hgiven
  obtain ⟨hcfg, hinputs, hanswers, hturn⟩ := hgiven
  exact ⟨w.role, w.sequence, w.keyByte, w.slot, w.misses, w.rxBuf, w.rxReady, w.txBuf, w.txPending, w.phase, hcfg,
    w.frameReceived, w.lastPayload, w.tsResult, w.qResult, hinputs, hanswers, hturn⟩

end Sys2Proof.Machine
end

section
/-! Requests (45_controltask.md R217): the codes each transition appends to `radio_log`, in order. -/

namespace Sys2Proof.Machine

/-- On the way from `s` to `t` the requests with these codes are appended to `radio_log`. -/
def RequestsMade (s t : State) (codes : List (BitVec 4)) : Prop :=
  ∃ made : List Request, t.radio_log = s.radio_log ++ made ∧ made.map Request.code = codes

namespace RequestsMade

variable {s t u : State} {codes : List (BitVec 4)}

theorem refl (s : State) : RequestsMade s s [] := ⟨[], (List.append_nil _).symm, rfl⟩

/-- An operation that makes no request: a response, a micro-operation, a write to another field. -/
theorem of_radio_log_eq (h : RequestsMade s t codes) (eq : u.radio_log = t.radio_log) : RequestsMade s u codes := by
  unfold RequestsMade
  rw [eq]
  exact h

theorem request (h : RequestsMade s t codes) (q : Request) : RequestsMade s (request q t) (codes ++ [q.code]) := by
  obtain ⟨made, hlog, rfl⟩ := h
  exact ⟨made ++ [q], by simp [hlog], by simp⟩

theorem retune (h : RequestsMade s t codes) : RequestsMade s (retune t) (codes ++ [2]) := h.request _

end RequestsMade

theorem start_requests (s : State) : RequestsMade s (start s) [4, 2] := by
  have timers : RequestsMade s (startTimers s) [] := (RequestsMade.refl s).of_radio_log_eq rfl
  exact (timers.request _).retune.of_radio_log_eq rfl

theorem cfgSel_requests (sel : Byte) (s : State) :
    RequestsMade s (cfgSel sel s) (if s.cfg.selectKey sel = s.active_key_byte then [] else [4]) := by
  obtain ⟨hsame, h⟩ | ⟨hother, h⟩ := cfgSel_cases sel s <;> rw [h]
  · rw [if_pos hsame]
    exact (RequestsMade.refl s).of_radio_log_eq rfl
  · rw [if_neg hother]
    exact ((RequestsMade.refl s).request (.setKey (s.cfg.key16 (s.cfg.selectKey sel)))).of_radio_log_eq rfl

theorem submit_requests (payload : List Byte) (s : State) : RequestsMade s (submit payload s) [] := by
  obtain ⟨-, h⟩ | ⟨-, -, h⟩ | ⟨-, -, h⟩ := submit_cases payload s <;> rw [h] <;>
    exact (RequestsMade.refl s).of_radio_log_eq rfl

theorem takeFrame_requests (s : State) : RequestsMade s (takeFrame s) [] := by
  obtain ⟨-, h⟩ | ⟨-, -, h⟩ | ⟨-, -, h⟩ := takeFrame_cases s <;> rw [h] <;>
    exact (RequestsMade.refl s).of_radio_log_eq rfl

theorem status_requests (f : Byte) (s : State) : RequestsMade s (status f s) [] := by
  obtain ⟨v, -, h⟩ | ⟨-, h⟩ := status_cases f s <;> rw [h] <;> exact (RequestsMade.refl s).of_radio_log_eq rfl

theorem txFire_requests (s : State) : RequestsMade s (txFire s) [7, 8] := by
  have armed : RequestsMade s (tsTakeTx (tsArmTx s.cfg.hopLoad s)).2 [] := (RequestsMade.refl s).of_radio_log_eq rfl
  exact ((armed.request (.xmit s.tx_buf s.cfg.N)).request .waitDone).of_radio_log_eq rfl

theorem txStep_requests (s : State) : RequestsMade s (txStep s) (if s.tx_due then [7, 8] else []) := by
  obtain ⟨hwait, h⟩ | ⟨hdue, h⟩ := txStep_cases s <;> rw [h]
  · rw [if_neg (by simp [hwait])]
    exact (RequestsMade.refl s).of_radio_log_eq rfl
  · rw [if_pos hdue]
    exact txFire_requests s

theorem rxPoll_requests (s : State) :
    RequestsMade s (rxPoll s).2 (if s.answers.avail then [5, 6] else [5]) := by
  have asked := (RequestsMade.refl s).request .avail
  unfold rxPoll
  split
  · exact asked.request .recv
  · exact asked

theorem RequestsMade.rxFinish {s t : State} {codes : List (BitVec 4)} (h : RequestsMade s t codes) :
    RequestsMade s (rxFinish t) (codes ++ [2]) := by
  have taken : RequestsMade s (tsTakeRx t).2 codes := h.of_radio_log_eq rfl
  exact taken.retune.of_radio_log_eq rfl

/-- A poll, and a retune behind it unless the wait goes on. -/
theorem rxStep_requests (s : State) :
    RequestsMade s (rxStep s) ((if s.answers.avail then [5, 6] else [5]) ++
      (if (s.answers.avail && s.cfg.verify (receivedBytes s.answers)) || s.rx_expired then [2] else [])) := by
  have polled := rxPoll_requests s
  by_cases hframe : s.answers.avail = true ∧ s.cfg.verify (receivedBytes s.answers) = true
  · have htail : ((s.answers.avail && s.cfg.verify (receivedBytes s.answers)) || s.rx_expired) = true := by
      simp [hframe]
    simp only [rxStep_hit hframe, htail, ↓reduceIte]
    have hit : RequestsMade s (rxHit (advanceSlot (rxCommit (receivedBytes s.answers) (rxPoll s).2))) _ :=
      polled.of_radio_log_eq rfl
    exact hit.rxFinish
  · rw [rxStep_without_frame hframe]
    rw [← Bool.and_eq_true, Bool.not_eq_true] at hframe
    rw [hframe, Bool.false_or]
    cases s.rx_expired with
    | true =>
      have miss : RequestsMade s (rxMiss (advanceSlot (rxPoll s).2)) _ := polled.of_radio_log_eq (rxMiss_radio_log _)
      exact miss.rxFinish
    | false =>
      simp only [Bool.false_eq_true, ↓reduceIte, List.append_nil]
      exact polled.of_radio_log_eq rfl

theorem requestCodes_step {s : State} (imm : Byte) (hidle : s.ctl_phase = .idle) :
    requestCodes (.step imm) s =
      if s.role then (if s.tx_due && !s.blanked then [7, 8] else [])
      else (if s.answers.avail then [5, 6] else [5]) ++
        (if (s.answers.avail && s.cfg.verify (receivedBytes s.answers)) || s.rx_expired then [2] else []) := by
  simp [requestCodes, hidle]

theorem controlStep_requests {s : State} (imm : Byte) (hidle : s.ctl_phase = .idle) :
    RequestsMade s (controlStep s) (requestCodes (.step imm) s) := by
  rw [requestCodes_step imm hidle]
  obtain ⟨hrole, hblanked, h⟩ | ⟨hrole, hopen, h⟩ | ⟨hrole, h⟩ := controlStep_cases s <;> rw [h]
  · simpa [hrole, hblanked] using (RequestsMade.refl s).of_radio_log_eq (u := respond .blanked .none s) rfl
  · simpa [hrole, hopen] using txStep_requests s
  · simpa [hrole] using rxStep_requests s

theorem commandBody_requests {i : Instr} {s : State} (hcmd : i.isCommand = true) (hidle : s.ctl_phase = .idle) :
    RequestsMade s (commandBody i s) (requestCodes i s) := by
  have lists {codes : List (BitVec 4)} (h : requestCodes i s = codes) (hmade : RequestsMade s (commandBody i s) codes) :
      RequestsMade s (commandBody i s) (requestCodes i s) := by rwa [h]
  cases i with
  | nop | cfgRole | clrGuard | reserved =>
    exact lists (by simp [requestCodes, hidle]) ((RequestsMade.refl s).of_radio_log_eq rfl)
  | start => exact lists (by simp [requestCodes, hidle]) (start_requests s)
  | cfgSel sel => exact lists (by simp [requestCodes, hidle]) (cfgSel_requests sel s)
  | submit _ payload => exact lists (by simp [requestCodes, hidle]) (submit_requests payload s)
  | take => exact lists (by simp [requestCodes, hidle]) (takeFrame_requests s)
  | step imm => exact controlStep_requests imm hidle
  | status f => exact lists (by simp [requestCodes, hidle]) (status_requests f s)
  | tick | txDone => cases hcmd
  | tsPeek | tsArmRx | tsArmTx | tsTakeRx | tsTakeTx | tsGuardClr | tsReserved => cases hcmd
  | qReset | qConfigure | qSetFreq | qSetPower | qSetKey | qAvail | qRecv | qXmit | qWaitDone => cases hcmd

theorem txFinish_requests (s : State) : RequestsMade s (txFinish s) [2] := by
  have advanced : RequestsMade s (advanceSlot s) [] := (RequestsMade.refl s).of_radio_log_eq rfl
  exact advanced.retune.of_radio_log_eq rfl

theorem requestCodes_command_onAir {i : Instr} {s : State} (hcmd : i.isCommand = true)
    (honAir : s.ctl_phase = .txOnair) : requestCodes i s = [] := by
  cases i with
  | txDone => cases hcmd
  | _ => simp [requestCodes, honAir]

theorem requestCodes_tick (s : State) : requestCodes .tick s = [] := by
  cases h : s.ctl_phase <;> simp [requestCodes, h]

/-- Settles O39: the commands by `commandBody_requests`; of the events, `TX_DONE` retunes and the tick asks nothing. -/
theorem requestSequencesAreTheListedOnes : Obligations.RequestSequencesAreTheListedOnes := by
  unfold Obligations.RequestSequencesAreTheListedOnes
  intro i s t htrans h
  change RequestsMade s t (requestCodes i s)
  obtain hcmd | rfl | rfl := isTransition_cases htrans
  · rw [exec_eq_accept_commandBody hcmd] at h
    obtain ⟨hidle, rfl⟩ | ⟨honAir, rfl⟩ := accept_cases h
    · exact commandBody_requests hcmd hidle
    · rw [requestCodes_command_onAir hcmd honAir]
      exact .refl _
  · obtain rfl : tickState s = t := Host.Outcome.next.inj h
    rw [requestCodes_tick]
    exact (RequestsMade.refl s).of_radio_log_eq rfl
  · obtain ⟨honAir, rfl⟩ := execTxDone_cases h
    have hcodes : requestCodes .txDone s = [2] := by simp [requestCodes, honAir]
    rw [hcodes]
    exact txFinish_requests s

end Sys2Proof.Machine
end

section
/-! Unsuccessful commands (60_exceptions.md R240): a command that answers `NOT_READY`, `ILLEGAL`, `IDLE` or `BLANKED`
has written nothing. -/

namespace Sys2Proof.Machine

/-- If the way from `s` to `t` ends in one of the four responses of R240, nothing else was written; only `IDLE` may
leave requests. -/
def FailsCleanly (s t : State) : Prop :=
  ∀ r : Response, t.response_log = s.response_log ++ [r] →
    r.code = .notReady ∨ r.code = .illegal ∨ r.code = .idle ∨ r.code = .blanked →
    t = { s with radio_log := t.radio_log, response_log := s.response_log ++ [r] } ∧
    (r.code ≠ .idle → t.radio_log = s.radio_log)

theorem response_eq_of_log {s t : State} {code : RespCode} {data : RespData} {r : Response}
    (hlog : t.response_log = s.response_log) (h : (respond code data t).response_log = s.response_log ++ [r]) :
    r = ⟨code, data⟩ := by
  rw [respond_response_log, hlog] at h
  exact (List.singleton_inj.mp (List.append_cancel_left h)).symm

/-- A response by itself. -/
theorem respond_failsCleanly (code : RespCode) (data : RespData) (s : State) :
    FailsCleanly s (respond code data s) := by
  intro r hlog _
  obtain rfl := response_eq_of_log rfl hlog
  exact ⟨rfl, fun _ => rfl⟩

/-- `OK` and `RADIO_FAIL` are not among the four. -/
theorem failsCleanly_of_other {s t : State} {code : RespCode} (hcode : code = .ok ∨ code = .radioFail) (data : RespData)
    (hlog : t.response_log = s.response_log) : FailsCleanly s (respond code data t) := by
  intro r h hfail
  obtain rfl := response_eq_of_log hlog h
  obtain rfl | rfl := hcode <;> simp at hfail

theorem start_failsCleanly (s : State) : FailsCleanly s (start s) := by
  refine failsCleanly_of_other ?_ .none rfl
  split
  · exact .inl rfl
  · exact .inr rfl

theorem cfgSel_failsCleanly (sel : Byte) (s : State) : FailsCleanly s (cfgSel sel s) := by
  obtain ⟨-, h⟩ | ⟨-, h⟩ := cfgSel_cases sel s <;> rw [h] <;> exact failsCleanly_of_other (.inl rfl) _ rfl

theorem submit_failsCleanly (payload : List Byte) (s : State) : FailsCleanly s (submit payload s) := by
  obtain ⟨-, h⟩ | ⟨-, -, h⟩ | ⟨-, -, h⟩ := submit_cases payload s <;> rw [h]
  · exact respond_failsCleanly _ _ s
  · exact respond_failsCleanly _ _ s
  · exact failsCleanly_of_other (.inl rfl) _ rfl

/-- The branch that clears `rx_ready` and answers `NOT_READY` needs a ready frame that does not verify. -/
theorem takeFrame_failsCleanly {s : State} (hverifies : s.rx_ready = true → s.cfg.verify s.rx_buf = true) :
    FailsCleanly s (takeFrame s) := by
  obtain ⟨-, h⟩ | ⟨hready, hbad, -⟩ | ⟨-, -, h⟩ := takeFrame_cases s
  · rw [h]
    exact respond_failsCleanly _ _ s
  · simp [hverifies hready] at hbad
  · rw [h]
    exact failsCleanly_of_other (.inl rfl) _ rfl

theorem status_failsCleanly (f : Byte) (s : State) : FailsCleanly s (status f s) := by
  obtain ⟨v, -, h⟩ | ⟨-, h⟩ := status_cases f s <;> rw [h] <;> exact respond_failsCleanly _ _ s

/-- A wait that goes on leaves the requests of its poll. -/
theorem rxStep_failsCleanly (s : State) : FailsCleanly s (rxStep s) := by
  obtain ⟨frame, -, h⟩ | ⟨-, -, h⟩ | ⟨-, -, h⟩ := rxStep_cases s <;> rw [h]
  · exact failsCleanly_of_other (.inl rfl) _ (rxPoll_response_log s)
  · exact failsCleanly_of_other (.inl rfl) _ (by simp)
  · rw [rxPoll_snd]
    intro r hlog _
    obtain rfl := response_eq_of_log rfl hlog
    exact ⟨rfl, fun hne => absurd rfl hne⟩

/-- A fire gives no response. -/
theorem txFire_failsCleanly (s : State) : FailsCleanly s (txFire s) := by
  intro r hlog
  rw [txFire_eq] at hlog
  simp at hlog

theorem controlStep_failsCleanly (s : State) : FailsCleanly s (controlStep s) := by
  obtain ⟨-, -, h⟩ | ⟨-, -, h⟩ | ⟨-, h⟩ := controlStep_cases s <;> rw [h]
  · exact respond_failsCleanly _ _ s
  · obtain ⟨-, htx⟩ | ⟨-, htx⟩ := txStep_cases s <;> rw [htx]
    · exact respond_failsCleanly _ _ s
    · exact txFire_failsCleanly s
  · exact rxStep_failsCleanly s

theorem commandBody_failsCleanly {i : Instr} {s : State} (hcmd : i.isCommand = true)
    (hverifies : s.rx_ready = true → s.cfg.verify s.rx_buf = true) : FailsCleanly s (commandBody i s) := by
  cases i with
  | nop | reserved => exact respond_failsCleanly _ _ s
  | cfgRole | clrGuard => exact failsCleanly_of_other (.inl rfl) _ rfl
  | start => exact start_failsCleanly s
  | cfgSel sel => exact cfgSel_failsCleanly sel s
  | submit _ payload => exact submit_failsCleanly payload s
  | take => exact takeFrame_failsCleanly hverifies
  | step => exact controlStep_failsCleanly s
  | status f => exact status_failsCleanly f s
  | tick | txDone => cases hcmd
  | tsPeek | tsArmRx | tsArmTx | tsTakeRx | tsTakeTx | tsGuardClr | tsReserved => cases hcmd
  | qReset | qConfigure | qSetFreq | qSetPower | qSetKey | qAvail | qRecv | qXmit | qWaitDone => cases hcmd

/-- Settles O36: in `IDLE` a command is its body, and every body fails cleanly. -/
theorem unsuccessfulCommandsWriteNothing : Obligations.UnsuccessfulCommandsWriteNothing := by
  unfold Obligations.UnsuccessfulCommandsWriteNothing
  intro i s t r hcmd hidle hverifies hexec
  obtain rfl : commandBody i s = t := Host.Outcome.next.inj ((exec_command_of_idle hcmd hidle).symm.trans hexec)
  exact commandBody_failsCleanly hcmd hverifies r

end Sys2Proof.Machine
end

section
/-! The checksum and the frame (42_packetcodec.md R150 to R155): the two forms of the CRC, the round trip, and the
errors that `VERIFY` finds. -/

namespace Sys2Proof

/-! ### The two forms (R151) -/

/-- The bit form tests the two lowest bits against each other, the byte form the lowest bit of the combined register. -/
theorem crcShift_xor (crc : Half) (d : Byte) :
    crcShift (crc ^^^ d.setWidth 16) = (crcBit crc d).1 ^^^ (crcBit crc d).2.setWidth 16 := by
  have hbit : (crc ^^^ d.setWidth 16).getLsbD 0 = (crc.getLsbD 0 ^^ d.getLsbD 0) := by simp
  have hshift : (crc ^^^ d.setWidth 16) >>> 1 = (crc >>> 1) ^^^ (d >>> 1).setWidth 16 := by
    rw [BitVec.ushiftRight_xor_distrib, BitVec.setWidth_ushiftRight (by decide)]
  unfold crcShift crcBit
  rw [hbit, hshift]
  split
  · dsimp only
    ac_rfl
  · rfl

/-- After `n` iterations the byte form still holds the bits that the bit form has yet to take in. -/
theorem crcShifts_xor (n : Nat) (crc : Half) (d : Byte) :
    crcShifts n (crc ^^^ d.setWidth 16) = crcBits n crc d ^^^ (d >>> n).setWidth 16 := by
  induction n generalizing crc d with
  | zero => simp [crcShifts, crcBits]
  | succ n ih =>
    rw [crcShifts, crcShift_xor, ih, crcBits]
    simp [crcBit, BitVec.shiftRight_add, Nat.add_comm n 1]

/-- Eight iterations leave no bit of the byte. -/
theorem crcBits_eight (crc : Half) (d : Byte) : crcBits 8 crc d = crcByte crc d := by
  have hgone : (d >>> 8).setWidth 16 = 0#16 := by
    rw [BitVec.ushiftRight_eq_zero (by decide)]
    rfl
  rw [crcByte, crcShifts_xor, hgone, BitVec.xor_zero]

/-- Settles O40: the forms agree on each byte, and both fold over the bytes from the same initial value. -/
theorem crcFormsAgree : Obligations.CrcFormsAgree := by
  unfold Obligations.CrcFormsAgree
  intro bytes
  have hstep : crcBits 8 = crcByte := funext₂ crcBits_eight
  rw [crc16Bitwise, hstep, crc16]

/-! ### Different registers stay different -/

/-- An iteration takes the lowest bit into bit 15, which is set in the polynomial and free after the shift. -/
theorem crcShift_getLsbD_15 (crc : Half) : (crcShift crc).getLsbD 15 = crc.getLsbD 0 := by
  unfold crcShift
  split
  · rename_i hset
    rw [hset, BitVec.getLsbD_xor, BitVec.getLsbD_ushiftRight, BitVec.getLsbD_of_ge _ _ (by decide)]
    decide
  · rename_i hclear
    rw [Bool.not_eq_true] at hclear
    rw [hclear, BitVec.getLsbD_ushiftRight, BitVec.getLsbD_of_ge _ _ (by decide)]

theorem crcShift_injective : Function.Injective crcShift := by
  intro a b h
  have hlow : a.getLsbD 0 = b.getLsbD 0 := by rw [← crcShift_getLsbD_15, h, crcShift_getLsbD_15]
  have hhigh : a >>> 1 = b >>> 1 := by
    unfold crcShift at h
    rw [hlow] at h
    split at h
    · exact (BitVec.xor_left_inj _).mp h
    · exact h
  apply BitVec.eq_of_getLsbD_eq
  intro i _
  cases i with
  | zero => exact hlow
  | succ i => simpa [Nat.add_comm 1 i] using congrArg (·.getLsbD i) hhigh

theorem crcShifts_injective (n : Nat) : Function.Injective (crcShifts n) := by
  induction n with
  | zero => exact Function.injective_id
  | succ n ih => exact ih.comp crcShift_injective

theorem crcByte_left_injective (b : Byte) : Function.Injective (crcByte · b) :=
  fun _ _ h => (BitVec.xor_left_inj _).mp (crcShifts_injective 8 h)

theorem crcByte_right_injective (crc : Half) : Function.Injective (crcByte crc) := by
  intro a b h
  have hwide : a.setWidth 16 = b.setWidth 16 := (BitVec.xor_right_inj _).mp (crcShifts_injective 8 h)
  bv_omega

theorem foldl_crcByte_injective (bytes : List Byte) : Function.Injective (bytes.foldl crcByte) := by
  induction bytes with
  | nil => exact Function.injective_id
  | cons b bytes ih => exact ih.comp (crcByte_left_injective b)

/-- One changed byte changes the checksum: the registers part at that byte and never meet again. -/
theorem crc16_ne_of_byte_ne (before after : List Byte) {a b : Byte} (h : a ≠ b) :
    crc16 (before ++ a :: after) ≠ crc16 (before ++ b :: after) := by
  simp only [crc16, List.foldl_append, List.foldl_cons]
  exact fun heq => h (crcByte_right_injective _ (foldl_crcByte_injective after heq))

/-! ### Frames (R153, R154) -/

/-- A payload with two checksum bytes behind it: what `VERIFY` compares. -/
theorem verify_append_pair {c : Config} (hc : c.Legal) {payload : List Byte} (hlen : payload.length = c.N - 2)
    (high low : Byte) : c.verify (payload ++ [high, low]) = (crc16 payload == high ++ low) := by
  obtain ⟨⟨hN, -⟩, -⟩ := hc
  have hframeLength : c.N = payload.length + 2 := by omega
  have hpayload : payloadOf c.N (payload ++ [high, low]) = payload := List.take_left' hlen
  have hstored : storedCrc c.N (payload ++ [high, low]) = high ++ low := by
    simp [storedCrc, hframeLength]
  have hframe : (payload ++ [high, low]).length = c.N := by
    simp [hframeLength]
  simp [Config.verify, hpayload, hstored, hframe]

/-- The checksum goes into its two bytes and comes out whole. -/
theorem verify_encodeFrame {c : Config} (hc : c.Legal) {payload : List Byte} (hlen : payload.length = c.N - 2) :
    c.verify (encodeFrame payload) = true := by
  rw [encodeFrame, verify_append_pair hc hlen, Laws.highByte_append_lowByte, beq_self_eq_true]

theorem encodeFrame_length_of_payload {c : Config} (hc : c.Legal) {payload : List Byte}
    (hlen : payload.length = c.N - 2) : (encodeFrame payload).length = c.N := by
  obtain ⟨⟨hN, -⟩, -⟩ := hc
  rw [encodeFrame_length]
  omega

/-- Settles O41: `verify_encodeFrame`, and two bytes more than the payload are `N`. -/
theorem encodedFramesVerify : Obligations.EncodedFramesVerify := by
  unfold Obligations.EncodedFramesVerify
  exact fun c payload hc hlen => ⟨encodeFrame_length_of_payload hc hlen, verify_encodeFrame hc hlen⟩

/-! ### Errors (R155) -/

theorem xor_bit_ne (b : Byte) {k : Nat} (hk : k < 8) : b ^^^ (1#8 <<< k) ≠ b := by
  have hbit : ∀ k < 8, 1#8 <<< k ≠ 0#8 := by decide
  exact fun h => hbit k hk (by simpa using congrArg (b ^^^ ·) h)

theorem modify_append_of_lt {α : Type} (f : α → α) (right : List α) {left : List α} {i : Nat} (h : i < left.length) :
    (left ++ right).modify i f = left.modify i f ++ right := by
  induction left generalizing i with
  | nil => simp at h
  | cons a left ih =>
    cases i with
    | zero => rfl
    | succ i => simp [ih (Nat.lt_of_succ_lt_succ h)]

theorem modify_append_add {α : Type} (f : α → α) (left right : List α) (i : Nat) :
    (left ++ right).modify (left.length + i) f = left ++ right.modify i f := by
  induction left with
  | nil => simp
  | cons a left ih => simp [Nat.succ_add, ih]

/-- A changed byte of the payload changes the checksum, and the stored one is the old. -/
theorem verify_payload_changed {c : Config} (hc : c.Legal) {payload : List Byte} (hlen : payload.length = c.N - 2)
    {i : Nat} (hi : i < payload.length) {f : Byte → Byte} (hf : ∀ b, f b ≠ b) :
    c.verify ((encodeFrame payload).modify i f) = false := by
  have hcrc : crc16 (payload.modify i f) ≠ crc16 payload := by
    have hsplit : payload = payload.take i ++ payload[i] :: payload.drop (i + 1) := by simp
    rw [List.modify_eq_take_cons_drop hi]
    conv_rhs => rw [hsplit]
    exact crc16_ne_of_byte_ne _ _ (hf _)
  rw [encodeFrame, modify_append_of_lt f _ hi, verify_append_pair hc (by rwa [List.length_modify]),
    Laws.highByte_append_lowByte]
  exact beq_false_of_ne hcrc

/-- A changed checksum byte is not the one the payload asks for. -/
theorem verify_checksum_changed {c : Config} (hc : c.Legal) {payload : List Byte} (hlen : payload.length = c.N - 2)
    {i : Nat} (hi : i < 2) {f : Byte → Byte} (hf : ∀ b, f b ≠ b) :
    c.verify ((encodeFrame payload).modify (payload.length + i) f) = false := by
  rw [encodeFrame, modify_append_add]
  have hwhole := Laws.highByte_append_lowByte (crc16 payload)
  obtain rfl | rfl : i = 0 ∨ i = 1 := by omega
  · refine (verify_append_pair hc hlen _ _).trans (beq_false_of_ne fun h => ?_)
    exact hf _ ((BitVec.append_left_inj _).mp (hwhole.trans h)).symm
  · refine (verify_append_pair hc hlen _ _).trans (beq_false_of_ne fun h => ?_)
    exact hf _ ((BitVec.append_right_inj _).mp (hwhole.trans h)).symm

/-- Settles O42: a flipped bit is a changed byte, and it stands in the payload or in the checksum. -/
theorem singleBitErrorsAreDetected : Obligations.SingleBitErrorsAreDetected := by
  unfold Obligations.SingleBitErrorsAreDetected
  intro c payload i k hc hlen hi hk
  have hchanges (b : Byte) : b ^^^ (1#8 <<< k) ≠ b := xor_bit_ne b hk
  by_cases hpayload : i < payload.length
  · exact verify_payload_changed hc hlen hpayload hchanges
  · obtain ⟨j, rfl⟩ := Nat.exists_eq_add_of_le (Nat.not_lt.mp hpayload)
    exact verify_checksum_changed hc hlen (by omega) hchanges

end Sys2Proof
end

section
/-! Selectors (41_hop_channel_key.md R134): what of the immediate counts. -/

namespace Sys2Proof.Config

theorem xor_eight_mod_sixteen (sel : Byte) : (sel ^^^ 0x08).toNat % 16 = (sel.toNat % 16) ^^^ 8 := by
  rw [BitVec.toNat_xor]
  exact Nat.xor_mod_two_pow (n := 4)

/-- Flipping bit 3 of the selector adds 8 to it or takes 8 away. -/
theorem xor_eight_cases (sel : Byte) :
    (sel ^^^ 0x08).toNat % 16 = sel.toNat % 16 + 8 ∨ sel.toNat % 16 = (sel ^^^ 0x08).toNat % 16 + 8 := by
  have hnibble : ∀ n < 16, n ^^^ 8 = n + 8 ∨ n = (n ^^^ 8) + 8 := by decide
  rw [xor_eight_mod_sixteen]
  exact hnibble _ (Nat.mod_lt _ (by decide))

/-- The upper four bits are masked away. -/
theorem or_upper_and_selMask (sel : Byte) : (sel ||| 0xF0) &&& SEL_MASK = sel &&& SEL_MASK := by
  rw [BitVec.and_or_distrib_right]
  exact BitVec.or_zero

theorem selectKey_toNat (c : Config) (sel : Byte) :
    (c.selectKey sel).toNat = (c.HOP_KEY_OFFSET + sel.toNat % 16) % 256 := by
  rw [selectKey_eq_ofNat, BitVec.toNat_ofNat]

theorem selectId_toNat (sel : Byte) : (selectId sel).toNat = sel.toNat % 8 := by
  rw [selectId_eq_ofNat, BitVec.toNat_ofNat]
  exact Nat.mod_mod _ 8

/-- Sixteen sums below 256 apart are sixteen key bytes. -/
theorem selectKey_eq_iff (c : Config) (sel sel' : Byte) :
    c.selectKey sel = c.selectKey sel' ↔ sel.toNat % 16 = sel'.toNat % 16 := by
  rw [← BitVec.toNat_inj, selectKey_toNat, selectKey_toNat]
  omega

/-- Settles O43: `SELECT` in terms of the selector mod 8 and mod 16. -/
theorem selectorProperties : Obligations.SelectorProperties := by
  unfold Obligations.SelectorProperties
  intro c sel sel'
  have hflip := xor_eight_cases sel
  refine ⟨selectId_toNat sel, ?sameId, ?otherKey, ?eightApart, ?sameIdUpper, ?sameKeyUpper, selectKey_eq_iff c sel sel'⟩
  case sameId =>
    rw [← BitVec.toNat_inj, selectId_toNat, selectId_toNat]
    omega
  case otherKey =>
    rw [Ne, selectKey_eq_iff]
    omega
  case eightApart =>
    simp only [← BitVec.toNat_inj, BitVec.toNat_add, selectKey_toNat, BitVec.reduceToNat]
    omega
  case sameIdUpper => rw [selectId, or_upper_and_selMask, selectId]
  case sameKeyUpper => rw [selectKey, or_upper_and_selMask, selectKey]

end Sys2Proof.Config
end

section
/-! Runs of ticks (40_tickstate.md R110, R120; 30_encoding.md R101): what `n` ticks leave, field by field, and the laws
that only count ticks. -/

/-- The ceiling of the guard is a tick count that 16 bits hold (R9). -/
theorem Sys2Proof.Config.BLANKING_TIMEOUT_range {c : Config} (h : c.Legal) :
    1 ≤ c.BLANKING_TIMEOUT ∧ c.BLANKING_TIMEOUT ≤ 65535 := by
  obtain ⟨-, -, -, -, hrange, -⟩ := h
  exact hrange

namespace Sys2Proof.Machine

/-! ### What `n` ticks leave -/

/-- A countdown after `n` ticks. -/
def countDownBy (n : Nat) (cnt : Half) : Half := BitVec.ofNat 16 (cnt.toNat - n)

theorem countDownBy_toNat (n : Nat) (cnt : Half) : (countDownBy n cnt).toNat = cnt.toNat - n := by
  have := cnt.isLt
  rw [countDownBy, BitVec.toNat_ofNat]
  omega

@[simp] theorem countDownBy_zero (cnt : Half) : countDownBy 0 cnt = cnt := by simp [countDownBy]

theorem countDownBy_countDown (n : Nat) (cnt : Half) : countDownBy n (countDown cnt) = countDownBy (n + 1) cnt := by
  rw [countDownBy, countDownBy, countDown_toNat, Nat.sub_sub, Nat.add_comm]

/-- A countdown that runs expires within `n` ticks. -/
def expiresWithin (n : Nat) (cnt : Half) : Bool := decide (0 < cnt.toNat ∧ cnt.toNat ≤ n)

theorem expiresWithin_eq_true {n : Nat} {cnt : Half} : expiresWithin n cnt = true ↔ 0 < cnt.toNat ∧ cnt.toNat ≤ n :=
  decide_eq_true_iff

theorem expiresWithin_eq_false {n : Nat} {cnt : Half} :
    expiresWithin n cnt = false ↔ cnt.toNat = 0 ∨ n < cnt.toNat := by
  rw [expiresWithin, decide_eq_false_iff_not]
  omega

@[simp] theorem expiresWithin_zero (cnt : Half) : expiresWithin 0 cnt = false := by
  rw [expiresWithin_eq_false]
  omega

/-- The first of `n + 1` ticks expires the countdown, or the others do. -/
theorem expiresWithin_succ (n : Nat) (cnt : Half) :
    (decide (cnt = 1) || expiresWithin n (countDown cnt)) = expiresWithin (n + 1) cnt := by
  have hone : cnt = 1 ↔ cnt.toNat = 1 := BitVec.toNat_inj.symm
  rw [expiresWithin, expiresWithin, ← Bool.decide_or, countDown_toNat, decide_eq_decide, hone]
  omega

/-- The guard after `n` ticks. -/
def guardUpBy (c : Config) (n : Nat) (g : Half) : Half := (guardUp c)^[n] g

/-- `n` ticks move the five fields of TickState, each on its own, and nothing else. -/
theorem ticks_eq (n : Nat) (s : State) :
    ticks n s = { s with
      rx_countdown := countDownBy n s.rx_countdown
      rx_expired := s.rx_expired || expiresWithin n s.rx_countdown
      tx_countdown := countDownBy n s.tx_countdown
      tx_due := s.tx_due || expiresWithin n s.tx_countdown
      inactivity_ticks := guardUpBy s.cfg n s.inactivity_ticks } := by
  induction n generalizing s with
  | zero => simp [ticks, guardUpBy]
  | succ n ih =>
    rw [ticks, ih]
    simp only [tickState, countDownBy_countDown, expireFlag_eq_or_decide, Bool.or_assoc, expiresWithin_succ]
    rfl

/-- A guard within its bound counts up to its ceiling (R111 (c)). -/
theorem guardUpBy_toNat {c : Config} (hc : c.Legal) {g : Half} (hg : g.toNat ≤ c.BLANKING_TIMEOUT) (n : Nat) :
    (guardUpBy c n g).toNat = min (g.toNat + n) c.BLANKING_TIMEOUT := by
  induction n generalizing g with
  | zero => simp [guardUpBy, hg]
  | succ n ih =>
    have hup := guardUp_toNat hc g
    calc (guardUpBy c (n + 1) g).toNat = (guardUpBy c n (guardUp c g)).toNat := rfl
      _ = min ((guardUp c g).toNat + n) c.BLANKING_TIMEOUT := ih (guardUp_le hc hg)
      _ = min (g.toNat + (n + 1)) c.BLANKING_TIMEOUT := by
        split at hup <;> omega

section
variable (n : Nat) (s : State)

@[simp] theorem ticks_cfg : (ticks n s).cfg = s.cfg := by rw [ticks_eq]
@[simp] theorem ticks_role : (ticks n s).role = s.role := by rw [ticks_eq]
@[simp] theorem ticks_ctl_phase : (ticks n s).ctl_phase = s.ctl_phase := by rw [ticks_eq]
@[simp] theorem ticks_hop_sequence_id : (ticks n s).hop_sequence_id = s.hop_sequence_id := by rw [ticks_eq]
@[simp] theorem ticks_channel_index : (ticks n s).channel_index = s.channel_index := by rw [ticks_eq]
@[simp] theorem ticks_missed_hop_count : (ticks n s).missed_hop_count = s.missed_hop_count := by rw [ticks_eq]
@[simp] theorem ticks_tx_pending : (ticks n s).tx_pending = s.tx_pending := by rw [ticks_eq]
@[simp] theorem ticks_radio_log : (ticks n s).radio_log = s.radio_log := by rw [ticks_eq]
@[simp] theorem ticks_response_log : (ticks n s).response_log = s.response_log := by rw [ticks_eq]

theorem ticks_rx_countdown : (ticks n s).rx_countdown = countDownBy n s.rx_countdown := by rw [ticks_eq]
theorem ticks_tx_countdown : (ticks n s).tx_countdown = countDownBy n s.tx_countdown := by rw [ticks_eq]
theorem ticks_rx_expired : (ticks n s).rx_expired = (s.rx_expired || expiresWithin n s.rx_countdown) := by rw [ticks_eq]
theorem ticks_tx_due : (ticks n s).tx_due = (s.tx_due || expiresWithin n s.tx_countdown) := by rw [ticks_eq]
theorem ticks_inactivity_ticks : (ticks n s).inactivity_ticks = guardUpBy s.cfg n s.inactivity_ticks := by rw [ticks_eq]

end

/-! ### Laws that only count ticks -/

/-- Settles O30: the countdowns stand at 0 and stay there, and the guard starts at 0. -/
theorem ticksAfterResetOnlyRaiseTheGuard : Obligations.TicksAfterResetOnlyRaiseTheGuard := by
  unfold Obligations.TicksAfterResetOnlyRaiseTheGuard
  intro c turn n hc
  have hguard : guardUpBy c n 0 = BitVec.ofNat 16 (min n c.BLANKING_TIMEOUT) := by
    obtain ⟨-, hceiling⟩ := Config.BLANKING_TIMEOUT_range hc
    have hcount : (guardUpBy c n 0).toNat = min (0 + n) c.BLANKING_TIMEOUT := guardUpBy_toNat hc (Nat.zero_le _) n
    apply BitVec.eq_of_toNat_eq
    rw [hcount, BitVec.toNat_ofNat]
    omega
  rw [ticks_eq, ← hguard]
  simp [State.atReset, countDownBy, expiresWithin]

/-- Settles O49: `k` ticks below `v` leave `v - k` and expire nothing; `v` ticks leave 0 and expire. -/
theorem countdownTimingLaw : Obligations.CountdownTimingLaw := by
  unfold Obligations.CountdownTimingLaw
  refine ⟨fun s => rfl, fun s v hv => ?_⟩
  have hpos : 0 < v.toNat := by bv_omega
  have hout : expiresWithin v.toNat v = true := expiresWithin_eq_true.mpr ⟨hpos, le_rfl⟩
  have hzero : countDownBy v.toNat v = 0 := by simp [countDownBy]
  simp only [ticks_rx_expired, ticks_rx_countdown, ticks_tx_due, ticks_tx_countdown, tsArmRx_rx_expired,
    tsArmRx_rx_countdown, tsArmTx_tx_due, tsArmTx_tx_countdown, countDownBy_toNat, hout, hzero, Bool.or_true]
  refine ⟨fun k hk => ?_, trivial, trivial, trivial, trivial⟩
  have hrunning : expiresWithin k v = false := expiresWithin_eq_false.mpr (.inr hk)
  simp [hrunning]

end Sys2Proof.Machine
end

section
/-! Runs (30_encoding.md R100, R101): one transition performed with given draws, and what it does to a receiver that
waits and to a transmitter that is due. -/

namespace Sys2Proof.Machine

/-! ### One transition with given draws -/

/-- The state in which the radio answers `a` to the transition to come. -/
def answering (a : Answers) (s : State) : State := { s with answers := a }

theorem perform_command {i : Instr} {s : State} (hcmd : i.isCommand = true) (hidle : s.ctl_phase = .idle)
    (a : Answers) : perform i a s = commandBody i (answering a s) := by
  have hexec : exec i { s with answers := a } = .next (commandBody i (answering a s)) :=
    exec_command_of_idle hcmd hidle
  simp [perform, hexec, nextOf]

theorem perform_txDone {s : State} (honAir : s.ctl_phase = .txOnair) (a : Answers) :
    perform .txDone a s = txFinish (answering a s) := by
  have hexec : exec .txDone { s with answers := a } = .next (txFinish (answering a s)) := exec_txDone_onAir honAir
  simp [perform, hexec, nextOf]

@[simp] theorem lastCode_respond (code : RespCode) (data : RespData) (s : State) :
    lastCode (respond code data s) = some code := by
  simp [lastCode]

theorem perform_step_of_receiver {s : State} (hidle : s.ctl_phase = .idle) (hrole : s.role = false) (imm : Byte)
    (a : Answers) : perform (.step imm) a s = rxStep (answering a s) := by
  have hbody : controlStep (answering a s) = rxStep (answering a s) := by simp [controlStep, answering, hrole]
  exact (perform_command rfl hidle a).trans hbody

theorem perform_step_of_blanked {s : State} (hidle : s.ctl_phase = .idle) (hrole : s.role = true)
    (hblanked : s.blanked = true) (imm : Byte) (a : Answers) :
    perform (.step imm) a s = respond .blanked .none (answering a s) := by
  have hblanked' : (answering a s).blanked = true := hblanked
  have hbody : controlStep (answering a s) = respond .blanked .none (answering a s) := by
    rw [controlStep, hblanked']
    exact if_pos hrole
  exact (perform_command rfl hidle a).trans hbody

/-- A due transmitter that is not blanked fires (44_txscheduler.md R192). -/
theorem perform_step_of_due {s : State} (hidle : s.ctl_phase = .idle) (hrole : s.role = true)
    (hopen : s.blanked = false) (hdue : s.tx_due = true) (imm : Byte) (a : Answers) :
    perform (.step imm) a s = txFire (answering a s) := by
  have hopen' : (answering a s).blanked = false := hopen
  have hbody : controlStep (answering a s) = txFire (answering a s) := by
    rw [controlStep, hopen', txStep]
    exact (if_pos hrole).trans (if_pos hdue)
  exact (perform_command rfl hidle a).trans hbody

theorem perform_submit {s : State} {payload : List Byte} (hidle : s.ctl_phase = .idle)
    (hlen : payload.length = s.cfg.N - 2) (hfree : s.tx_pending = false) (imm : Byte) (a : Answers) :
    perform (.submit imm payload) a s = submitAccepted payload (answering a s) := by
  have hbody : submit payload (answering a s) = submitAccepted payload (answering a s) := by
    obtain ⟨hne, -⟩ | ⟨-, hpending, -⟩ | ⟨-, -, h⟩ := submit_cases payload (answering a s)
    · exact absurd hlen hne
    · exact absurd hpending (by simp [answering, hfree])
    · exact h
  exact (perform_command rfl hidle a).trans hbody

/-- An accepted payload clears the guard, whose ceiling is not 0 (42_packetcodec.md R156). -/
theorem submitAccepted_blanked {s : State} (hc : s.cfg.Legal) (payload : List Byte) :
    (submitAccepted payload s).blanked = false := by
  obtain ⟨hceiling, -⟩ := Config.BLANKING_TIMEOUT_range hc
  have hne : (0 : Half).toNat ≠ s.cfg.BLANKING_TIMEOUT := by simp; omega
  exact beq_false_of_ne hne

/-! ### A receiver that waits (43_linksynchronizer.md R174 to R178) -/

/-- A countdown that runs, or has run out, has expired after as many ticks as it holds. -/
theorem ticks_rx_expired_of_waiting {s : State} {n : Nat} (hwaits : s.rx_countdown ≠ 0 ∨ s.rx_expired = true)
    (hn : s.rx_countdown.toNat ≤ n) : (ticks n s).rx_expired = true := by
  rw [ticks_rx_expired, Bool.or_eq_true, expiresWithin_eq_true]
  obtain hruns | hexpired := hwaits
  · exact .inr ⟨by bv_omega, hn⟩
  · exact .inl hexpired

@[simp] theorem rxPoll_cfg (s : State) : (rxPoll s).2.cfg = s.cfg := by rw [rxPoll_snd]

theorem rxMiss_rx_countdown (s : State) : (rxMiss s).rx_countdown = s.cfg.hopLoad := by
  unfold rxMiss
  split <;> rfl

/-- Once the countdown has expired the step ends the wait, and arms for one hop period or for 1.2 (R174). -/
theorem rxStep_of_expired {s : State} (hexpired : s.rx_expired = true) :
    ∃ t, rxStep s = rxFinish t ∧ (t.rx_countdown = s.cfg.hopLoad ∨ t.rx_countdown = s.cfg.hitLoad) := by
  obtain ⟨frame, -, h⟩ | ⟨-, -, h⟩ | ⟨-, hwait, -⟩ := rxStep_cases s
  · exact ⟨_, h, .inr (congrArg Config.hitLoad (rxPoll_cfg s))⟩
  · refine ⟨_, h, .inl ((rxMiss_rx_countdown _).trans ?_)⟩
    exact congrArg Config.hopLoad (rxPoll_cfg s)
  · simp [hexpired] at hwait

/-- Settles O51: by then the countdown has expired, so the step is one that ends with the response `OK` and the flag
cleared. -/
theorem theReceiveWaitIsBounded : Obligations.TheReceiveWaitIsBounded := by
  unfold Obligations.TheReceiveWaitIsBounded
  intro s a imm n hidle hrole hwaits hn
  have hexec : exec (.step imm) (answering a (ticks n s)) = .next (rxStep (answering a (ticks n s))) :=
    exec_step_of_receiver imm ((ticks_ctl_phase n s).trans hidle) ((ticks_role n s).trans hrole)
  have hexpired : (answering a (ticks n s)).rx_expired = true := ticks_rx_expired_of_waiting hwaits hn
  obtain ⟨t, ht, harmed⟩ := rxStep_of_expired hexpired
  have hcfg : (answering a (ticks n s)).cfg = s.cfg := ticks_cfg n s
  rw [hcfg] at harmed
  refine ⟨rxFinish t, hexec.trans (congrArg _ ht), lastCode_respond .., rfl, harmed⟩

theorem not_received_of_noValidFrame {c : Config} {a : Answers} (h : NoValidFrame c a) :
    ¬(a.avail = true ∧ c.verify (receivedBytes a) = true) := by
  rintro ⟨havail, hverify⟩
  obtain hnone | hbad := h
  · simp [havail] at hnone
  · simp [hverify] at hbad

/-- A receiver in `IDLE` that waits for its countdown, or has let it run out. -/
structure Waiting (s : State) : Prop where
  legal : s.cfg.Legal
  idle : s.ctl_phase = .idle
  receiver : s.role = false
  waits : s.rx_countdown ≠ 0 ∨ s.rx_expired = true

/-- The state in which the step of `expireAndStep` misses: the countdown waited out, the radio polled, the slot
advanced. -/
def expiredAndPolled (a : Answers) (s : State) : State :=
  advanceSlot (rxPoll (answering a (ticks s.rx_countdown.toNat s))).2

theorem expiredAndPolled_eq (a : Answers) (s : State) : ∃ log, expiredAndPolled a s =
    { answering a (ticks s.rx_countdown.toNat s) with
      channel_index := s.cfg.nextSlot s.channel_index
      radio_log := log } := by
  rw [expiredAndPolled, rxPoll_snd, advanceSlot]
  exact ⟨_, by simp [answering]; rfl⟩

section
variable {s : State} {a : Answers} (h : Waiting s) (ha : NoValidFrame s.cfg a)
include h ha

theorem expireAndStep_eq : expireAndStep a s = rxFinish (rxMiss (expiredAndPolled a s)) := by
  have hidle := (ticks_ctl_phase s.rx_countdown.toNat s).trans h.idle
  have hrole := (ticks_role s.rx_countdown.toNat s).trans h.receiver
  have hexpired : (answering a (ticks s.rx_countdown.toNat s)).rx_expired = true :=
    ticks_rx_expired_of_waiting h.waits le_rfl
  have hcfg : (answering a (ticks s.rx_countdown.toNat s)).cfg = s.cfg := ticks_cfg ..
  rw [expireAndStep, perform_step_of_receiver hidle hrole, rxStep_without_frame, if_pos hexpired]
  · rfl
  · rw [hcfg]
    exact not_received_of_noValidFrame ha

/-- The receiver after a miss: a hop period ahead, with the count and the slot that R174 gives. -/
theorem expireAndStep_cases : ∃ (count : BitVec 5) (slot : Byte) (log : List Request),
    expireAndStep a s = rxFinish { answering a (ticks s.rx_countdown.toNat s) with
      rx_countdown := s.cfg.hopLoad
      missed_hop_count := count
      channel_index := slot
      radio_log := log } ∧
    ((s.missed_hop_count ≠ 20 ∧ count = s.missed_hop_count + 1 ∧ slot = s.cfg.nextSlot s.channel_index) ∨
      (s.missed_hop_count = 20 ∧ count = 20 ∧ slot = 0)) := by
  obtain ⟨log, hpolled⟩ := expiredAndPolled_eq a s
  rw [expireAndStep_eq h ha, hpolled]
  by_cases hcap : s.missed_hop_count = 20
  · refine ⟨20, 0, log, ?_, .inr ⟨hcap, rfl, rfl⟩⟩
    rw [rxMiss_at_cap (by simpa [answering] using hcap)]
    simp [answering, hcap]
  · refine ⟨_, _, log, ?_, .inl ⟨hcap, rfl, rfl⟩⟩
    rw [rxMiss_below_cap (by simpa [answering] using hcap)]
    simp [answering]

theorem expireAndStep_cfg : (expireAndStep a s).cfg = s.cfg := by
  obtain ⟨count, slot, log, heq, -⟩ := expireAndStep_cases h ha
  rw [heq]
  exact ticks_cfg ..

theorem Waiting.expireAndStep : Waiting (expireAndStep a s) := by
  have hcfg := expireAndStep_cfg h ha
  obtain ⟨count, slot, log, heq, -⟩ := expireAndStep_cases h ha
  have hpos := Config.hopTicks_pos h.legal
  have hload := Config.hopLoad_toNat h.legal
  have harmed : (Machine.expireAndStep a s).rx_countdown = s.cfg.hopLoad := by rw [heq]; rfl
  refine ⟨hcfg ▸ h.legal, ?_, ?_, .inl ?_⟩
  · rw [heq]
    exact (ticks_ctl_phase ..).trans h.idle
  · rw [heq]
    exact (ticks_role ..).trans h.receiver
  · rw [harmed]
    bv_omega

theorem expireAndStep_below_cap (hbelow : s.missed_hop_count.toNat < 20) :
    (expireAndStep a s).missed_hop_count.toNat = s.missed_hop_count.toNat + 1 ∧
    (expireAndStep a s).channel_index.toNat = (s.channel_index.toNat + 1) % s.cfg.M := by
  obtain ⟨count, slot, log, heq, ⟨-, rfl, rfl⟩ | ⟨hcap, -⟩⟩ := expireAndStep_cases h ha
  · rw [heq]
    refine ⟨?_, Config.nextSlot_toNat h.legal _⟩
    change (s.missed_hop_count + 1).toNat = _
    bv_omega
  · simp [hcap] at hbelow

theorem expireAndStep_at_cap (hcap : s.missed_hop_count.toNat = 20) :
    (expireAndStep a s).missed_hop_count.toNat = 20 ∧ (expireAndStep a s).channel_index = 0 := by
  obtain ⟨count, slot, log, heq, ⟨hbelow, -⟩ | ⟨-, rfl, rfl⟩⟩ := expireAndStep_cases h ha
  · exact absurd (BitVec.eq_of_toNat_eq hcap) hbelow
  · rw [heq]
    exact ⟨rfl, rfl⟩

end

/-! ### A run of misses (R178 (b)) -/

/-- Up to the cap every miss counts one and advances one slot. -/
theorem expireAndSteps_up_to_cap {polls : List Answers} {s : State} (h : Waiting s)
    (hslot : s.channel_index.toNat < s.cfg.M) (hpolls : ∀ a ∈ polls, NoValidFrame s.cfg a)
    (hcount : s.missed_hop_count.toNat + polls.length ≤ 20) :
    (expireAndSteps polls s).missed_hop_count.toNat = s.missed_hop_count.toNat + polls.length ∧
    (expireAndSteps polls s).channel_index.toNat = (s.channel_index.toNat + polls.length) % s.cfg.M := by
  induction polls generalizing s with
  | nil => exact ⟨rfl, (Nat.mod_eq_of_lt hslot).symm⟩
  | cons a polls ih =>
    obtain ⟨ha, hrest⟩ := List.forall_mem_cons.mp hpolls
    rw [List.length_cons] at hcount ⊢
    have hcfg := expireAndStep_cfg h ha
    obtain ⟨hmiss, hnext⟩ := expireAndStep_below_cap h ha (by omega)
    have hnextSlot : (expireAndStep a s).channel_index.toNat < s.cfg.M :=
      hnext ▸ Nat.mod_lt _ (Nat.zero_lt_of_lt hslot)
    obtain ⟨hmisses, hslots⟩ := ih (h.expireAndStep ha) (by rwa [hcfg]) (by rwa [hcfg]) (by omega)
    rw [expireAndSteps, hmisses, hslots, hmiss, hnext, hcfg, Nat.mod_add_mod]
    exact ⟨by omega, by congr 1; omega⟩

/-- Once parked at slot 0 the receiver stays there. -/
theorem expireAndSteps_parked {polls : List Answers} {s : State} (h : Waiting s)
    (hpolls : ∀ a ∈ polls, NoValidFrame s.cfg a) (hcap : s.missed_hop_count.toNat = 20) (hslot : s.channel_index = 0) :
    (expireAndSteps polls s).missed_hop_count.toNat = 20 ∧ (expireAndSteps polls s).channel_index = 0 := by
  induction polls generalizing s with
  | nil => exact ⟨hcap, hslot⟩
  | cons a polls ih =>
    obtain ⟨ha, hrest⟩ := List.forall_mem_cons.mp hpolls
    obtain ⟨hcap', hslot'⟩ := expireAndStep_at_cap h ha hcap
    exact ih (h.expireAndStep ha) (by rwa [expireAndStep_cfg h ha]) hcap' hslot'

/-- The first miss past the cap parks the receiver. -/
theorem expireAndSteps_past_cap {polls : List Answers} {s : State} (h : Waiting s)
    (hpolls : ∀ a ∈ polls, NoValidFrame s.cfg a) (hcount : s.missed_hop_count.toNat ≤ 20)
    (hpast : 20 < s.missed_hop_count.toNat + polls.length) :
    (expireAndSteps polls s).missed_hop_count.toNat = 20 ∧ (expireAndSteps polls s).channel_index = 0 := by
  induction polls generalizing s with
  | nil => simp at hpast; omega
  | cons a polls ih =>
    obtain ⟨ha, hrest⟩ := List.forall_mem_cons.mp hpolls
    rw [← expireAndStep_cfg h ha] at hrest
    rw [List.length_cons] at hpast
    obtain hbelow | hcap := Nat.lt_or_eq_of_le hcount
    · obtain ⟨hmiss, -⟩ := expireAndStep_below_cap h ha hbelow
      exact ih (h.expireAndStep ha) hrest (by omega) (by omega)
    · obtain ⟨hcap', hslot'⟩ := expireAndStep_at_cap h ha hcap
      rw [expireAndSteps]
      exact expireAndSteps_parked (h.expireAndStep ha) hrest hcap' hslot'

/-- Settles O50: from a count of 0 the cap lies 20 misses ahead. -/
theorem missedHopsParkTheReceiver : Obligations.MissedHopsParkTheReceiver := by
  unfold Obligations.MissedHopsParkTheReceiver
  intro s polls hc hidle hrole hslot hzero hwaits hpolls
  have h : Waiting s := ⟨hc, hidle, hrole, hwaits⟩
  have hcount : s.missed_hop_count.toNat = 0 := congrArg BitVec.toNat hzero
  refine ⟨fun hlen => ?_, fun hlen => expireAndSteps_past_cap h hpolls (by omega) (by omega)⟩
  obtain ⟨hmisses, hslots⟩ := expireAndSteps_up_to_cap h hslot hpolls (by omega)
  exact ⟨by rw [hmisses, hcount, Nat.zero_add], hslots⟩

/-! ### A transmitter (44_txscheduler.md R192 to R195) -/

/-- A guard within its bound is at its ceiling after that many ticks. -/
theorem ticks_blanked {s : State} {n : Nat} (hc : s.cfg.Legal)
    (hguard : s.inactivity_ticks.toNat ≤ s.cfg.BLANKING_TIMEOUT) (hn : s.cfg.BLANKING_TIMEOUT ≤ n) : (ticks n s).blanked = true := by
  rw [blanked_iff, ticks_inactivity_ticks, guardUpBy_toNat hc hguard, ticks_cfg]
  omega

/-- Settles O52: by then the guard is at its ceiling, so the step is blanked; the payload clears the guard and leaves
`tx_due`, so the next step fires. -/
theorem blankingSilencesUntilAPayload : Obligations.BlankingSilencesUntilAPayload := by
  unfold Obligations.BlankingSilencesUntilAPayload
  intro s a imm n hc hidle hrole hguard hn
  have hidle' := (ticks_ctl_phase n s).trans hidle
  have hrole' := (ticks_role n s).trans hrole
  refine ⟨?silent, fun payload hlen hfree hdue => ?resumed⟩
  case silent =>
    rw [perform_step_of_blanked hidle' hrole' (ticks_blanked hc hguard hn), ← ticks_response_log n s]
    rfl
  case resumed =>
    have hcfg : (answering a (ticks n s)).cfg = s.cfg := ticks_cfg n s
    have hopen : (submitAccepted payload (answering a (ticks n s))).blanked = false :=
      submitAccepted_blanked (hcfg ▸ hc) payload
    rw [perform_submit hidle' (by rwa [ticks_cfg]) (by rwa [ticks_tx_pending]),
      perform_step_of_due (s := submitAccepted payload (answering a (ticks n s))) hidle' hrole' hopen hdue, txFire_eq,
      ← ticks_radio_log n s, ← ticks_cfg n s]
    exact ⟨rfl, rfl⟩

/-- A countdown armed for one hop period, `air` ticks and then `rest` ticks run down. -/
theorem expires_over_two_runs {c : Config} (hc : c.Legal) (air rest : Nat) :
    (expiresWithin air c.hopLoad || expiresWithin rest (countDownBy air c.hopLoad)) =
      decide (c.hopTicks ≤ air + rest) := by
  have hpos := Config.hopTicks_pos hc
  rw [expiresWithin, expiresWithin, countDownBy_toNat, Config.hopLoad_toNat hc, ← Bool.decide_or, decide_eq_decide]
  omega

/-- Settles O53: the fire arms the countdown, and neither the event nor the phase touches it. -/
theorem transmitPeriodRunsFromFireToFire : Obligations.TransmitPeriodRunsFromFireToFire := by
  unfold Obligations.TransmitPeriodRunsFromFireToFire
  intro s a imm air rest hc hidle hrole hopen hdue done
  have hfire : perform (.step imm) a s = txFire (answering a s) := perform_step_of_due hidle hrole hopen hdue imm a
  have honAir : (ticks air (txFire (answering a s))).ctl_phase = .txOnair := ticks_ctl_phase ..
  have hdone : done = txFinish (answering a (ticks air (txFire (answering a s)))) := by
    rw [← perform_txDone honAir, ← hfire]
  have hduring : (ticks rest done).tx_due = decide (s.cfg.hopTicks ≤ air + rest) := by
    have hdue' : done.tx_due = expiresWithin air s.cfg.hopLoad := by
      rw [hdone]
      exact ticks_tx_due air (txFire (answering a s))
    have hcount : done.tx_countdown = countDownBy air s.cfg.hopLoad := by
      rw [hdone]
      exact ticks_tx_countdown air (txFire (answering a s))
    rw [ticks_tx_due, hdue', hcount, expires_over_two_runs hc]
  refine ⟨by rw [hdone]; rfl, fun hearly => ?_, fun hlate => ?_⟩
  · rw [hduring, decide_eq_false_iff_not]
    omega
  · rw [hduring, decide_eq_true_iff]
    exact hlate

/-- Settles O54: the event and the tick write different fields. -/
theorem txDoneAndTickCommute : Obligations.TxDoneAndTickCommute := by
  unfold Obligations.TxDoneAndTickCommute
  intro s honAir
  exact ⟨txFinish s, tickState s, tickState (txFinish s), exec_txDone_onAir honAir, rfl, rfl,
    exec_txDone_onAir honAir⟩

end Sys2Proof.Machine
end

section
/-! Two stations (60_exceptions.md R245; 95_test_vectors.md P5): `START` puts them in step, and a hop cycle keeps them
in step and delivers the payload. -/

namespace Sys2Proof.Machine

/-- Settles O56: `START` writes slot 0, arms the transmitter and clears `tx_due` on both sides; the rest was so
before. -/
theorem startPutsTwoStationsInStep : Obligations.StartPutsTwoStationsInStep := by
  unfold Obligations.StartPutsTwoStationsInStep
  intro a b da db hc hcfg hroleA hroleB hidleA hidleB hseq hfree
  rw [perform_command rfl hidleA, perform_command rfl hidleB, commandBody, start_eq, start_eq]
  exact {
    legal := hc
    sameConfig := hcfg
    roleA := hroleA
    roleB := hroleB
    idleA := hidleA
    idleB := hidleB
    sameSequence := hseq
    sameSlot := rfl
    slot := Config.M_pos hc
    armed := rfl
    notDue := rfl
    consumed := hfree }

/-! ### The transmitter's half of a hop cycle -/

/-- What a cycle leaves of the transmitter `a`. -/
structure Sent (a a' : State) : Prop where
  cfg : a'.cfg = a.cfg
  role : a'.role = a.role
  idle : a'.ctl_phase = .idle
  sequence : a'.hop_sequence_id = a.hop_sequence_id
  slot : a'.channel_index = a.cfg.nextSlot a.channel_index
  armed : a'.tx_countdown = a.cfg.hopLoad
  notDue : a'.tx_due = false
  consumed : a'.tx_pending = false

/-- The transmitter after a hop period and the payload. -/
def fed (payload : List Byte) (da : Answers) (a : State) : State :=
  submitAccepted payload (answering da (ticks a.cfg.hopTicks a))

section
variable (payload : List Byte) (da : Answers) (a : State)

theorem fed_cfg : (fed payload da a).cfg = a.cfg := ticks_cfg a.cfg.hopTicks a
theorem fed_role : (fed payload da a).role = a.role := ticks_role a.cfg.hopTicks a
theorem fed_ctl_phase : (fed payload da a).ctl_phase = a.ctl_phase := ticks_ctl_phase a.cfg.hopTicks a
theorem fed_hop_sequence_id : (fed payload da a).hop_sequence_id = a.hop_sequence_id :=
  ticks_hop_sequence_id a.cfg.hopTicks a
theorem fed_channel_index : (fed payload da a).channel_index = a.channel_index := ticks_channel_index a.cfg.hopTicks a
theorem fed_tx_due : (fed payload da a).tx_due = (a.tx_due || expiresWithin a.cfg.hopTicks a.tx_countdown) :=
  ticks_tx_due a.cfg.hopTicks a

end

/-- The whole effect of the event (44_txscheduler.md R193). -/
theorem txFinish_eq (s : State) : txFinish s = { s with
    channel_index := s.cfg.nextSlot s.channel_index
    radio_log := s.radio_log ++ [.setFreq (advanceSlot s).curFreq]
    tx_pending := false
    ctl_phase := .idle
    response_log := s.response_log ++ [⟨.ok, .none⟩] } := rfl

/-- A fire and the end of its transmission, the countdown armed at the fire. -/
theorem txFinish_txFire_sent (da : Answers) (s : State) :
    Sent s (txFinish (answering da (txFire (answering da s)))) := by
  rw [txFire_eq, txFinish_eq]
  exact ⟨rfl, rfl, rfl, rfl, rfl, rfl, rfl, rfl⟩

/-- Feeding leaves all that the fire starts from. -/
theorem Sent.of_fed {payload : List Byte} {da : Answers} {a a' : State} (h : Sent (fed payload da a) a') :
    Sent a a' where
  cfg := h.cfg.trans (fed_cfg payload da a)
  role := h.role.trans (fed_role payload da a)
  idle := h.idle
  sequence := h.sequence.trans (fed_hop_sequence_id payload da a)
  slot := h.slot.trans (congrArg₂ Config.nextSlot (fed_cfg payload da a) (fed_channel_index payload da a))
  armed := h.armed.trans (congrArg Config.hopLoad (fed_cfg payload da a))
  notDue := h.notDue
  consumed := h.consumed

/-- The transmission is due after one hop period, and the payload has opened the guard. -/
theorem perform_step_fed {a b : State} (h : InStep a b) (payload : List Byte) (da : Answers) :
    perform (.step 0) da (fed payload da a) = txFire (answering da (fed payload da a)) := by
  have hidle : (fed payload da a).ctl_phase = .idle := (fed_ctl_phase payload da a).trans h.idleA
  have hrole : (fed payload da a).role = true := (fed_role payload da a).trans h.roleA
  have hcfg : (answering da (ticks a.cfg.hopTicks a)).cfg = a.cfg := ticks_cfg a.cfg.hopTicks a
  have hopen : (fed payload da a).blanked = false := submitAccepted_blanked (by rw [hcfg]; exact h.legal) payload
  have hdue : (fed payload da a).tx_due = true := by
    rw [fed_tx_due, h.armed, Bool.or_eq_true, expiresWithin_eq_true, Config.hopLoad_toNat h.legal]
    exact .inr ⟨Config.hopTicks_pos h.legal, le_rfl⟩
  exact perform_step_of_due hidle hrole hopen hdue 0 da

section
variable {a b : State} (h : InStep a b) {payload : List Byte} (hlen : payload.length = a.cfg.N - 2)
include h hlen

theorem perform_submit_after_hop (da : Answers) :
    perform (.submit 0 payload) da (ticks a.cfg.hopTicks a) = fed payload da a :=
  perform_submit ((ticks_ctl_phase ..).trans h.idleA) (by rwa [ticks_cfg]) ((ticks_tx_pending ..).trans h.consumed) 0 da

/-- What is sent is the payload's frame. -/
theorem transmitter_sends (da : Answers) :
    (perform (.step 0) da (perform (.submit 0 payload) da (ticks a.cfg.hopTicks a))).tx_buf = encodeFrame payload := by
  rw [perform_submit_after_hop h hlen, perform_step_fed h payload da, txFire_eq]
  rfl

theorem transmitter_half (da : Answers) :
    Sent a (perform .txDone da (perform (.step 0) da (perform (.submit 0 payload) da (ticks a.cfg.hopTicks a)))) := by
  rw [perform_submit_after_hop h hlen, perform_step_fed h payload da, perform_txDone rfl]
  exact (txFinish_txFire_sent da (fed payload da a)).of_fed

end

/-! ### The receiver's half -/

/-- What a cycle leaves of the receiver `b`. -/
structure Delivered (payload : List Byte) (b b' : State) : Prop where
  cfg : b'.cfg = b.cfg
  role : b'.role = b.role
  idle : b'.ctl_phase = .idle
  sequence : b'.hop_sequence_id = b.hop_sequence_id
  slot : b'.channel_index = b.cfg.nextSlot b.channel_index
  responses : b'.response_log = b.response_log ++ [⟨.ok, .none⟩, ⟨.ok, .payload payload⟩]

/-- A hit as one record: the frame taken over, the slot advanced, 1.2 hop periods armed (43_linksynchronizer.md
R176). -/
theorem rxStep_hit_eq {s : State} (h : s.answers.avail = true ∧ s.cfg.verify (receivedBytes s.answers) = true) :
    ∃ log, rxStep s = rxFinish { s with
      rx_buf := receivedBytes s.answers
      rx_ready := true
      missed_hop_count := 0
      frame_received := true
      channel_index := s.cfg.nextSlot s.channel_index
      rx_countdown := s.cfg.hitLoad
      radio_log := log } := by
  rw [rxStep_hit h, rxPoll_snd]
  exact ⟨_, rfl⟩

/-- A ready frame that verifies is handed out (42_packetcodec.md R157). -/
theorem takeFrame_of_verified {s : State} (hready : s.rx_ready = true) (hverify : s.cfg.verify s.rx_buf = true) :
    takeFrame s = respond .ok (.payload (payloadOf s.cfg.N s.rx_buf)) { s with rx_ready := false } := by
  obtain ⟨hnone, -⟩ | ⟨-, hbad, -⟩ | ⟨-, -, h⟩ := takeFrame_cases s
  · simp [hready] at hnone
  · simp [hverify] at hbad
  · exact h

theorem perform_take_of_verified {s : State} (hidle : s.ctl_phase = .idle) (hready : s.rx_ready = true)
    (hverify : s.cfg.verify s.rx_buf = true) (imm : Byte) (a : Answers) :
    perform (.take imm) a s =
      respond .ok (.payload (payloadOf s.cfg.N s.rx_buf)) { answering a s with rx_ready := false } :=
  (perform_command rfl hidle a).trans (takeFrame_of_verified hready hverify)

/-- The payload comes out of its frame as it went in. -/
theorem payloadOf_encodeFrame {n : Nat} {payload : List Byte} (hlen : payload.length = n - 2) :
    payloadOf n (encodeFrame payload) = payload := List.take_left' hlen

/-- The radio hears these bytes; its other answers are those of `db`. -/
def hearing (bytes : List Byte) (db : Answers) : Answers := { db with avail := true, recv := bytes }

/-- A frame has at most 255 bytes, so it comes over whole (30_encoding.md R90). -/
theorem receivedBytes_hearing {c : Config} (hc : c.Legal) {frame : List Byte} (hlen : frame.length = c.N)
    (db : Answers) : receivedBytes (hearing frame db) = frame := by
  obtain ⟨⟨-, hN⟩, -⟩ := hc
  exact List.take_of_length_le (hlen.trans_le hN)

/-- The receiver hears the frame of a payload, steps, and hands the payload out. -/
theorem perform_step_take {s : State} (hc : s.cfg.Legal) (hidle : s.ctl_phase = .idle) (hrole : s.role = false)
    {payload : List Byte} (hlen : payload.length = s.cfg.N - 2) (db : Answers) :
    Delivered payload s (perform (.take 0) db (perform (.step 0) (hearing (encodeFrame payload) db) s)) := by
  have hbytes : receivedBytes (answering (hearing (encodeFrame payload) db) s).answers = encodeFrame payload :=
    receivedBytes_hearing hc (encodeFrame_length_of_payload hc hlen) db
  have hverify : s.cfg.verify (encodeFrame payload) = true := verify_encodeFrame hc hlen
  obtain ⟨log, hhit⟩ := rxStep_hit_eq (s := answering (hearing (encodeFrame payload) db) s)
    ⟨rfl, (congrArg _ hbytes).trans hverify⟩
  rw [perform_step_of_receiver hidle hrole, hhit, hbytes, perform_take_of_verified]
  case hidle => exact hidle
  case hready => rfl
  case hverify => exact hverify
  exact {
    cfg := rfl
    role := rfl
    idle := hidle
    sequence := rfl
    slot := rfl
    responses := by
      have hpayload : payloadOf s.cfg.N (encodeFrame payload) = payload := payloadOf_encodeFrame hlen
      change (s.response_log ++ [⟨.ok, .none⟩]) ++ [⟨.ok, .payload (payloadOf s.cfg.N (encodeFrame payload))⟩] = _
      rw [hpayload, List.append_assoc]
      rfl }

/-- Ticks before the delivery leave all it speaks of. -/
theorem Delivered.of_ticks {payload : List Byte} {n : Nat} {b b' : State} (h : Delivered payload (ticks n b) b') :
    Delivered payload b b' where
  cfg := h.cfg.trans (ticks_cfg n b)
  role := h.role.trans (ticks_role n b)
  idle := h.idle
  sequence := h.sequence.trans (ticks_hop_sequence_id n b)
  slot := h.slot.trans (congrArg₂ Config.nextSlot (ticks_cfg n b) (ticks_channel_index n b))
  responses := h.responses.trans (congrArg (· ++ _) (ticks_response_log n b))

theorem receiver_half {a b : State} (h : InStep a b) {payload : List Byte} (hlen : payload.length = a.cfg.N - 2)
    (n : Nat) (db : Answers) :
    Delivered payload b (perform (.take 0) db (perform (.step 0) (hearing (encodeFrame payload) db) (ticks n b))) := by
  have hcfg : (ticks n b).cfg = a.cfg := (ticks_cfg n b).trans h.sameConfig
  exact (perform_step_take (hcfg ▸ h.legal) ((ticks_ctl_phase n b).trans h.idleB) ((ticks_role n b).trans h.roleB)
    (hcfg ▸ hlen) db).of_ticks

/-! ### Whole cycles -/

/-- What is sent is what is heard. -/
theorem linkCycle_halves {a b : State} (h : InStep a b) {payload : List Byte} (hlen : payload.length = a.cfg.N - 2)
    (da db : Answers) :
    Sent a (linkCycle payload da db (a, b)).1 ∧ Delivered payload b (linkCycle payload da db (a, b)).2 := by
  refine ⟨transmitter_half h hlen da, ?_⟩
  have hreceived := receiver_half h hlen a.cfg.hopTicks db
  rw [← transmitter_sends h hlen da] at hreceived
  exact hreceived

theorem Sent.inStep {a b a' b' : State} {payload : List Byte} (hsent : Sent a a') (hdelivered : Delivered payload b b')
    (h : InStep a b) : InStep a' b' where
  legal := hsent.cfg ▸ h.legal
  sameConfig := by rw [hdelivered.cfg, hsent.cfg, h.sameConfig]
  roleA := hsent.role.trans h.roleA
  roleB := hdelivered.role.trans h.roleB
  idleA := hsent.idle
  idleB := hdelivered.idle
  sameSequence := by rw [hdelivered.sequence, hsent.sequence, h.sameSequence]
  sameSlot := by rw [hdelivered.slot, hsent.slot, h.sameConfig, h.sameSlot]
  slot := by
    rw [hsent.slot, hsent.cfg]
    exact Config.nextSlot_lt h.legal _
  armed := by rw [hsent.armed, hsent.cfg]
  notDue := hsent.notDue
  consumed := hsent.consumed

/-- Settles O57: cycle by cycle, the two halves keep the stations in step, advance the slot and deliver the payload. -/
theorem stationsInStepStayInStep : Obligations.StationsInStepStayInStep := by
  unfold Obligations.StationsInStepStayInStep
  intro a b da db payloads h hlens
  induction payloads generalizing a b with
  | nil => exact ⟨h, (Nat.mod_eq_of_lt h.slot).symm, (List.append_nil _).symm⟩
  | cons payload payloads ih =>
    obtain ⟨hlen, hrest⟩ := List.forall_mem_cons.mp hlens
    obtain ⟨hsent, hdelivered⟩ := linkCycle_halves h hlen da db
    have hnext : (linkCycle payload da db (a, b)).1.channel_index.toNat = (a.channel_index.toNat + 1) % a.cfg.M := by
      rw [hsent.slot, Config.nextSlot_toNat h.legal]
    obtain ⟨hinStep, hslot, hresponses⟩ := ih _ _ (hsent.inStep hdelivered h) (by rwa [hsent.cfg])
    refine ⟨hinStep, hslot.trans ?_, hresponses.trans ?_⟩
    · rw [hnext, hsent.cfg, Nat.mod_add_mod, List.length_cons, Nat.add_assoc, Nat.add_comm 1]
    · rw [hdelivered.responses, List.flatMap_cons, List.append_assoc]

end Sys2Proof.Machine
end

section
/-! The labels of the receive machine (10_state.md R43). -/

namespace Sys2Proof.Machine

section
variable {s : State}

theorem hasLabel_locked_iff : s.hasLabel .locked = true ↔ s.missed_hop_count.toNat = 0 := by
  simp [State.hasLabel]

theorem hasLabel_listening_iff : s.hasLabel .listening = true ↔
    (1 ≤ s.missed_hop_count.toNat ∧ s.missed_hop_count.toNat ≤ 19) ∨ s.frame_received = false := by
  simp [State.hasLabel]

theorem hasLabel_resyncing_iff : s.hasLabel .resyncing = true ↔ s.missed_hop_count.toNat = 20 := by
  simp [State.hasLabel, State.parked, MISS_CAP]

/-- Up to the cap the last label shown is the one that is left. -/
theorem hasLabel_receiveLabel (hcap : s.missed_hop_count.toNat ≤ 20) : s.hasLabel s.receiveLabel = true := by
  unfold State.receiveLabel
  split
  · assumption
  · rename_i hopen
    split
    · assumption
    · rename_i hsilent
      have hbelow : s.missed_hop_count.toNat ≠ 20 := mt hasLabel_resyncing_iff.mpr hopen
      have houtside := mt (fun hrange => hasLabel_listening_iff.mpr (.inl hrange)) hsilent
      exact hasLabel_locked_iff.mpr (by omega)

theorem receiveLabel_ne_locked (hnone : s.frame_received = false) : s.receiveLabel ≠ .locked := by
  have hlistening : s.hasLabel .listening = true := hasLabel_listening_iff.mpr (.inr hnone)
  rw [State.receiveLabel, if_pos hlistening]
  split <;> simp

/-- After the first frame the count alone says which label holds. -/
theorem eq_of_hasLabel (hsome : s.frame_received = true) {l : ReceiveLabel} (hl : s.hasLabel l = true) :
    l = if s.missed_hop_count.toNat = 0 then .locked else if s.missed_hop_count.toNat ≤ 19 then .listening
      else .resyncing := by
  cases l with
  | locked =>
    have hcount := hasLabel_locked_iff.mp hl
    rw [if_pos hcount]
  | listening =>
    obtain ⟨hlow, hhigh⟩ := (hasLabel_listening_iff.mp hl).resolve_right (by simp [hsome])
    rw [if_neg (by omega), if_pos hhigh]
  | resyncing =>
    have hcount := hasLabel_resyncing_iff.mp hl
    rw [if_neg (by omega), if_neg (by omega)]

end

/-- Settles O59: the label shown holds, and after the first frame two labels that hold are the same. -/
theorem receiveLabelsFollowTheCountAndTheFirstFrame : Obligations.ReceiveLabelsFollowTheCountAndTheFirstFrame := by
  unfold Obligations.ReceiveLabelsFollowTheCountAndTheFirstFrame
  intro s hcap
  exact ⟨hasLabel_locked_iff.trans (BitVec.toNat_inj (y := 0)), hasLabel_listening_iff,
    hasLabel_resyncing_iff.trans (BitVec.toNat_inj (y := 20)), hasLabel_receiveLabel hcap, receiveLabel_ne_locked,
    fun hsome l hl => (eq_of_hasLabel hsome hl).trans (eq_of_hasLabel hsome (hasLabel_receiveLabel hcap)).symm⟩

end Sys2Proof.Machine
end

section
/-! Noninterference (10_state.md R41, R43): what is only written down is never read. -/

namespace Sys2Proof.Machine

/-- A state with all that is only written down wiped out. -/
def State.blind (s : State) : State := { s with
  radio_log := []
  response_log := []
  frame_received := false
  last_payload := none
  ts_result := none
  q_result := .none
  inputs := []
  turn := 0 }

/-- Two states differ in what is only written down exactly if they are the same with it wiped out. -/
theorem blind_eq_iff (s s' : State) : s'.blind = s.blind ↔ s' = { s with
    radio_log := s'.radio_log, response_log := s'.response_log, frame_received := s'.frame_received
    last_payload := s'.last_payload, ts_result := s'.ts_result, q_result := s'.q_result
    inputs := s'.inputs, turn := s'.turn } := by
  constructor
  · intro h
    cases s
    cases s'
    simp [State.blind] at h ⊢
    tauto
  · intro h
    rw [h]
    rfl

/-- What `f` does to the rest of the state does not depend on what is only written down. -/
def Oblivious (f : State → State) : Prop := ∀ s, (f s).blind = (f s.blind).blind

theorem Oblivious.congr {f : State → State} (hf : Oblivious f) {s s' : State} (h : s'.blind = s.blind) :
    (f s').blind = (f s).blind := by
  rw [hf s', hf s, h]

theorem Oblivious.comp {f g : State → State} (hf : Oblivious f) (hg : Oblivious g) : Oblivious fun s => f (g s) :=
  fun s => hf.congr (hg s)

/-- A branch on what is not wiped out. -/
theorem Oblivious.ite {p : State → Prop} [DecidablePred p] (hp : ∀ s, p s.blind ↔ p s) {f g : State → State}
    (hf : Oblivious f) (hg : Oblivious g) : Oblivious fun s => if p s then f s else g s := by
  intro s
  dsimp only
  by_cases h : p s
  · rw [if_pos h, if_pos ((hp s).mpr h)]
    exact hf s
  · rw [if_neg h, if_neg (mt (hp s).mp h)]
    exact hg s

theorem respond_oblivious (code : RespCode) (data : RespData) : Oblivious (respond code data) := fun _ => rfl

/-! ### The bodies of the commands -/

theorem start_oblivious : Oblivious start := fun s => by
  rw [start_eq, start_eq]
  rfl

theorem cfgSel_oblivious (sel : Byte) : Oblivious (cfgSel sel) :=
  (respond_oblivious .ok .none).comp (.ite (fun _ => .rfl) (fun _ => rfl) (fun _ => rfl))

theorem submit_oblivious (payload : List Byte) : Oblivious (submit payload) :=
  .ite (fun _ => .rfl) (respond_oblivious _ _) (.ite (fun _ => .rfl) (respond_oblivious _ _) fun _ => rfl)

theorem takeFrame_oblivious : Oblivious takeFrame :=
  .ite (fun _ => .rfl) (.ite (fun _ => .rfl) (fun _ => rfl) fun _ => rfl) (respond_oblivious _ _)

/-- `STATUS` selects none of what is wiped out, and its answer is wiped out itself. -/
theorem status_oblivious (f : Byte) : Oblivious (status f) := fun s => by
  obtain ⟨v, -, h⟩ | ⟨-, h⟩ := status_cases f s <;>
    obtain ⟨v', -, h'⟩ | ⟨-, h'⟩ := status_cases f s.blind <;> rw [h, h'] <;> rfl

theorem rxMiss_oblivious : Oblivious rxMiss := .ite (fun _ => .rfl) (fun _ => rfl) fun _ => rfl

theorem rxFinish_oblivious : Oblivious rxFinish := fun _ => rfl

theorem rxPoll_blind (s : State) : (rxPoll s).2.blind = s.blind := by
  rw [rxPoll_snd]
  rfl

theorem rxStep_oblivious : Oblivious rxStep := fun s => by
  have hpolled : (rxPoll s).2.blind = (rxPoll s.blind).2.blind := by rw [rxPoll_blind, rxPoll_blind]; rfl
  have hadvance : Oblivious advanceSlot := fun _ => rfl
  have hcommit (frame : List Byte) : Oblivious (rxCommit frame) := fun _ => rfl
  have hhit : Oblivious rxHit := fun _ => rfl
  by_cases hframe : s.answers.avail = true ∧ s.cfg.verify (receivedBytes s.answers) = true
  · rw [rxStep_hit hframe, rxStep_hit (s := s.blind) hframe]
    exact (rxFinish_oblivious.comp (hhit.comp (hadvance.comp (hcommit _)))).congr hpolled
  · rw [rxStep_without_frame hframe, rxStep_without_frame (s := s.blind) hframe]
    change _ = (if s.rx_expired = true then _ else _ : State).blind
    split
    · exact (rxFinish_oblivious.comp (rxMiss_oblivious.comp hadvance)).congr hpolled
    · exact (respond_oblivious _ _).congr hpolled

theorem txFire_oblivious : Oblivious txFire := fun s => by
  rw [txFire_eq, txFire_eq]
  rfl

theorem controlStep_oblivious : Oblivious controlStep :=
  .ite (fun _ => .rfl)
    (.ite (fun _ => .rfl) (respond_oblivious _ _) (.ite (fun _ => .rfl) txFire_oblivious (respond_oblivious _ _)))
    rxStep_oblivious

theorem commandBody_oblivious (i : Instr) : Oblivious (commandBody i) := by
  cases i with
  | nop | cfgRole | clrGuard | reserved => exact fun _ => rfl
  | start => exact start_oblivious
  | cfgSel sel => exact cfgSel_oblivious sel
  | submit _ payload => exact submit_oblivious payload
  | take => exact takeFrame_oblivious
  | step => exact controlStep_oblivious
  | status f => exact status_oblivious f
  | tick | txDone => exact fun _ => rfl
  | tsPeek | tsArmRx | tsArmTx | tsTakeRx | tsTakeTx | tsGuardClr | tsReserved => exact fun _ => rfl
  | qReset | qConfigure | qSetFreq | qSetPower | qSetKey | qAvail | qRecv | qXmit | qWaitDone => exact fun _ => rfl

/-! ### Instructions -/

theorem ctl_phase_eq_of_blind_eq {s s' : State} (h : s'.blind = s.blind) : s'.ctl_phase = s.ctl_phase := by
  change s'.blind.ctl_phase = s.blind.ctl_phase
  rw [h]

theorem peekField_eq_of_blind_eq (f : Half) {s s' : State} (h : s'.blind = s.blind) :
    peekField f s' = peekField f s := by
  change peekField f s'.blind = peekField f s.blind
  rw [h]

/-- An instruction that always completes. -/
theorem exec_blind_of_next {i : Instr} {f : State → State} (hi : ∀ s, exec i s = .next (f s)) (hf : Oblivious f)
    {s s' t : State} (h : s'.blind = s.blind) (hexec : exec i s = .next t) :
    ∃ t', exec i s' = .next t' ∧ t'.blind = t.blind := by
  obtain rfl : f s = t := Host.Outcome.next.inj ((hi s).symm.trans hexec)
  exact ⟨f s', hi s', hf.congr h⟩

theorem exec_blind_of_command {i : Instr} (hcmd : i.isCommand = true) {s s' t : State} (h : s'.blind = s.blind)
    (hexec : exec i s = .next t) : ∃ t', exec i s' = .next t' ∧ t'.blind = t.blind := by
  have hphase := ctl_phase_eq_of_blind_eq h
  rw [exec_eq_accept_commandBody hcmd] at hexec ⊢
  obtain ⟨hidle, rfl⟩ | ⟨honAir, rfl⟩ := accept_cases hexec
  · exact ⟨_, accept_idle (hphase.trans hidle), (commandBody_oblivious i).congr h⟩
  · exact ⟨_, accept_txOnair (hphase.trans honAir), h⟩

theorem exec_blind {i : Instr} {s s' t : State} (h : s'.blind = s.blind) (hexec : exec i s = .next t) :
    ∃ t', exec i s' = .next t' ∧ t'.blind = t.blind := by
  cases i with
  | nop | start | cfgRole | cfgSel | clrGuard | submit | take | step | status | reserved =>
    exact exec_blind_of_command rfl h hexec
  | tsArmRx | tsArmTx | tsTakeRx | tsTakeTx | tsGuardClr | tick =>
    exact exec_blind_of_next (fun _ => rfl) (fun _ => rfl) h hexec
  | qReset | qConfigure | qSetFreq | qSetPower | qSetKey | qAvail | qRecv | qXmit | qWaitDone =>
    exact exec_blind_of_next (fun _ => rfl) (fun _ => rfl) h hexec
  | tsPeek f =>
    obtain ⟨v, hfield, rfl⟩ := exec_tsPeek_cases hexec
    have hfield' : peekField f s' = some v := (peekField_eq_of_blind_eq f h).trans hfield
    exact ⟨_, exec_tsPeek_of_peekField hfield', h⟩
  | txDone =>
    obtain ⟨honAir, rfl⟩ := execTxDone_cases hexec
    have hphase := ctl_phase_eq_of_blind_eq h
    have hfinish : Oblivious txFinish := fun _ => rfl
    exact ⟨_, exec_txDone_onAir (hphase.trans honAir), hfinish.congr h⟩
  | tsReserved => cases hexec

/-- Settles O60: the relation of the statement is equality of the blinded states, which every instruction keeps. -/
theorem observationsAreNeverRead : Obligations.ObservationsAreNeverRead := by
  unfold Obligations.ObservationsAreNeverRead
  intro i s s' t h hexec
  obtain ⟨t', hexec', ht⟩ := exec_blind ((blind_eq_iff s s').mpr h) hexec
  exact ⟨t', hexec', (blind_eq_iff t t').mp ht⟩

end Sys2Proof.Machine
end
